-- ==== Sys2Proof/Word.lean ====
section
/-! DEFINITION. The word types of the sheep8 CHIP-8 core, one per field width the spec names
(10_state R20, 30_encoding R81). All values are unsigned (00_scope R11). -/

namespace Sys2Proof

/-- 4 bits: a register index `x` or `y`, the row count `n`, the major opcode `o` (30_encoding R81). -/
abbrev Nibble := BitVec 4

/-- 8 bits: a general register, a timer, a byte of memory, the immediate `nn`. -/
abbrev Byte := BitVec 8

/-- 12 bits: the address immediate `nnn`. -/
abbrev Addr12 := BitVec 12

/-- 16 bits: an instruction word, PC, I, a stack entry. -/
abbrev Word := BitVec 16

/-- The index of VF, the register that doubles as the flag (10_state R22). -/
abbrev VF : Nibble := 0xF#4

end Sys2Proof
end

