-- ==== Sys2Proof/Syntax.lean ====
section
/-! DEFINITION. The instructions: one constructor per row of spec/opcode_table.json, in the table's
order (30_encoding R86), each with the operand fields of its format (R82). Every operand has exactly
its field's width (R81), and every value of a field is legal (R83, R84). -/

namespace Sys2Proof

inductive Instr where
  /-- `00E0` CLS (44_display R210). -/
  | cls
  /-- `00EE` RET (41_control_flow R130). -/
  | ret
  /-- `1NNN` JP nnn (41_control_flow R131). -/
  | jp (nnn : Addr12)
  /-- `2NNN` CALL nnn (41_control_flow R132). -/
  | call (nnn : Addr12)
  /-- `3XNN` SE Vx, nn (41_control_flow R133). -/
  | seImm (x : Nibble) (nn : Byte)
  /-- `4XNN` SNE Vx, nn (41_control_flow R134). -/
  | sneImm (x : Nibble) (nn : Byte)
  /-- `5XY0` SE Vx, Vy (41_control_flow R135). -/
  | seReg (x y : Nibble)
  /-- `6XNN` LD Vx, nn (42_alu R160). -/
  | ldImm (x : Nibble) (nn : Byte)
  /-- `7XNN` ADD Vx, nn (42_alu R161). -/
  | addImm (x : Nibble) (nn : Byte)
  /-- `8XY0` LD Vx, Vy (42_alu R162). -/
  | ldReg (x y : Nibble)
  /-- `8XY1` OR Vx, Vy (42_alu R163). -/
  | or (x y : Nibble)
  /-- `8XY2` AND Vx, Vy (42_alu R164). -/
  | and (x y : Nibble)
  /-- `8XY3` XOR Vx, Vy (42_alu R165). -/
  | xor (x y : Nibble)
  /-- `8XY4` ADD Vx, Vy (42_alu R166). -/
  | addReg (x y : Nibble)
  /-- `8XY5` SUB Vx, Vy (42_alu R167). -/
  | sub (x y : Nibble)
  /-- `8XY6` SHR Vx, Vy (42_alu R168). -/
  | shr (x y : Nibble)
  /-- `8XY7` SUBN Vx, Vy (42_alu R169). -/
  | subn (x y : Nibble)
  /-- `8XYE` SHL Vx, Vy (42_alu R170). -/
  | shl (x y : Nibble)
  /-- `9XY0` SNE Vx, Vy (41_control_flow R136). -/
  | sneReg (x y : Nibble)
  /-- `ANNN` LD I, nnn (43_index_memory R190). -/
  | ldI (nnn : Addr12)
  /-- `BNNN` JP V0, nnn (41_control_flow R137). -/
  | jpV0 (nnn : Addr12)
  /-- `CXNN` RND Vx, nn (42_alu R171). -/
  | rnd (x : Nibble) (nn : Byte)
  /-- `DXYN` DRW Vx, Vy, n (44_display R211). -/
  | drw (x y n : Nibble)
  /-- `EX9E` SKP Vx (45_timers_keys R230). -/
  | skp (x : Nibble)
  /-- `EXA1` SKNP Vx (45_timers_keys R231). -/
  | sknp (x : Nibble)
  /-- `FX07` LD Vx, DT (45_timers_keys R233). -/
  | ldVxDt (x : Nibble)
  /-- `FX0A` LD Vx, K (45_timers_keys R236). -/
  | ldVxK (x : Nibble)
  /-- `FX15` LD DT, Vx (45_timers_keys R234). -/
  | ldDtVx (x : Nibble)
  /-- `FX18` LD ST, Vx (45_timers_keys R235). -/
  | ldStVx (x : Nibble)
  /-- `FX1E` ADD I, Vx (43_index_memory R191). -/
  | addIVx (x : Nibble)
  /-- `FX29` LD F, Vx (43_index_memory R192). -/
  | ldFVx (x : Nibble)
  /-- `FX33` LD B, Vx (43_index_memory R193). -/
  | ldBVx (x : Nibble)
  /-- `FX55` LD [I], Vx (43_index_memory R194). -/
  | ldMemVx (x : Nibble)
  /-- `FX65` LD Vx, [I] (43_index_memory R195). -/
  | ldVxMem (x : Nibble)
  deriving DecidableEq, Repr

/-- One row of the opcode table: the mnemonic, and the `match` and `mask` of 30_encoding R86. -/
structure OpcodeRow where
  mnemonic : String
  pattern : Word
  mask : Word
  deriving DecidableEq, Repr

/-- A word matches a row when `(op & mask) == match` (30_encoding R86). -/
def OpcodeRow.covers (row : OpcodeRow) (op : Word) : Bool := op &&& row.mask == row.pattern

/-- The row of 30_encoding R86 that each constructor stands for. -/
def Instr.row : Instr → OpcodeRow
  | .cls => ⟨"CLS", 0x00E0, 0xFFFF⟩
  | .ret => ⟨"RET", 0x00EE, 0xFFFF⟩
  | .jp _ => ⟨"JP", 0x1000, 0xF000⟩
  | .call _ => ⟨"CALL", 0x2000, 0xF000⟩
  | .seImm _ _ => ⟨"SE_IMM", 0x3000, 0xF000⟩
  | .sneImm _ _ => ⟨"SNE_IMM", 0x4000, 0xF000⟩
  | .seReg _ _ => ⟨"SE_REG", 0x5000, 0xF00F⟩
  | .ldImm _ _ => ⟨"LD_IMM", 0x6000, 0xF000⟩
  | .addImm _ _ => ⟨"ADD_IMM", 0x7000, 0xF000⟩
  | .ldReg _ _ => ⟨"LD_REG", 0x8000, 0xF00F⟩
  | .or _ _ => ⟨"OR", 0x8001, 0xF00F⟩
  | .and _ _ => ⟨"AND", 0x8002, 0xF00F⟩
  | .xor _ _ => ⟨"XOR", 0x8003, 0xF00F⟩
  | .addReg _ _ => ⟨"ADD_REG", 0x8004, 0xF00F⟩
  | .sub _ _ => ⟨"SUB", 0x8005, 0xF00F⟩
  | .shr _ _ => ⟨"SHR", 0x8006, 0xF00F⟩
  | .subn _ _ => ⟨"SUBN", 0x8007, 0xF00F⟩
  | .shl _ _ => ⟨"SHL", 0x800E, 0xF00F⟩
  | .sneReg _ _ => ⟨"SNE_REG", 0x9000, 0xF00F⟩
  | .ldI _ => ⟨"LD_I", 0xA000, 0xF000⟩
  | .jpV0 _ => ⟨"JP_V0", 0xB000, 0xF000⟩
  | .rnd _ _ => ⟨"RND", 0xC000, 0xF000⟩
  | .drw _ _ _ => ⟨"DRW", 0xD000, 0xF000⟩
  | .skp _ => ⟨"SKP", 0xE09E, 0xF0FF⟩
  | .sknp _ => ⟨"SKNP", 0xE0A1, 0xF0FF⟩
  | .ldVxDt _ => ⟨"LD_VX_DT", 0xF007, 0xF0FF⟩
  | .ldVxK _ => ⟨"LD_VX_K", 0xF00A, 0xF0FF⟩
  | .ldDtVx _ => ⟨"LD_DT_VX", 0xF015, 0xF0FF⟩
  | .ldStVx _ => ⟨"LD_ST_VX", 0xF018, 0xF0FF⟩
  | .addIVx _ => ⟨"ADD_I_VX", 0xF01E, 0xF0FF⟩
  | .ldFVx _ => ⟨"LD_F_VX", 0xF029, 0xF0FF⟩
  | .ldBVx _ => ⟨"LD_B_VX", 0xF033, 0xF0FF⟩
  | .ldMemVx _ => ⟨"LD_MEM_VX", 0xF055, 0xF0FF⟩
  | .ldVxMem _ => ⟨"LD_VX_MEM", 0xF065, 0xF0FF⟩

/-- The 34 rows of 30_encoding R86, one per constructor, in the table's order. -/
def opcodeRows : List OpcodeRow :=
  [Instr.cls, .ret, .jp 0, .call 0, .seImm 0 0, .sneImm 0 0, .seReg 0 0, .ldImm 0 0,
    .addImm 0 0, .ldReg 0 0, .or 0 0, .and 0 0].map Instr.row ++
  [Instr.xor 0 0, .addReg 0 0, .sub 0 0, .shr 0 0, .subn 0 0, .shl 0 0, .sneReg 0 0, .ldI 0,
    .jpV0 0, .rnd 0 0, .drw 0 0 0].map Instr.row ++
  [Instr.skp 0, .sknp 0, .ldVxDt 0, .ldVxK 0, .ldDtVx 0, .ldStVx 0, .addIVx 0, .ldFVx 0,
    .ldBVx 0, .ldMemVx 0, .ldVxMem 0].map Instr.row

end Sys2Proof
end

