-- ==== Sys2Proof/WellFormed.lean ====
section
/-! DEFINITION. Which words are instructions. Every value of every operand field is legal
(30_encoding R83, R84) and the syntax gives each operand exactly its field's width, so no term of
`Instr` is ill-formed; what can be ill-formed is a WORD, by one check per group of the unknown-word
table of 30_encoding R95. -/

namespace Sys2Proof

/-- Group 0 of R95: every `0NNN` but 00E0 and 00EE is unknown. -/
def WellFormed.group0 (op : Word) : Bool := op == 0x00E0#16 || op == 0x00EE#16

/-- Groups 5 and 9 of R95: the low nibble is 0. -/
def WellFormed.lowNibbleZero (op : Word) : Bool := op.extractLsb' 0 4 == 0#4

/-- Group 8 of R95: the low nibble is none of 8, 9, A, B, C, D, F. -/
def WellFormed.group8 (op : Word) : Bool :=
  !([0x8#4, 0x9#4, 0xA#4, 0xB#4, 0xC#4, 0xD#4, 0xF#4].contains (op.extractLsb' 0 4))

/-- Group E of R95: the low byte is 9E or A1. -/
def WellFormed.groupE (op : Word) : Bool := [0x9E#8, 0xA1#8].contains (op.extractLsb' 0 8)

/-- Group F of R95: the low byte is one of the nine listed. -/
def WellFormed.groupF (op : Word) : Bool :=
  [0x07#8, 0x0A#8, 0x15#8, 0x18#8, 0x1E#8, 0x29#8, 0x33#8, 0x55#8, 0x65#8].contains
    (op.extractLsb' 0 8)

/-- Whether a word is in none of the unknown groups of 30_encoding R95. -/
def wellFormedWord (op : Word) : Bool :=
  match op.extractLsb' 12 4 with
  | 0x0#4 => WellFormed.group0 op
  | 0x5#4 => WellFormed.lowNibbleZero op
  | 0x8#4 => WellFormed.group8 op
  | 0x9#4 => WellFormed.lowNibbleZero op
  | 0xE#4 => WellFormed.groupE op
  | 0xF#4 => WellFormed.groupF op
  | _ => true

end Sys2Proof
end

