-- ==== Sys2Proof/Decode.lean ====
section
/-! DEFINITION. The decoder: a pure function from the 16-bit word to an instruction or `Unknown`
(30_encoding R87), by the opcode map of R85; the encoder beside it, written from the formats of R82. -/

namespace Sys2Proof

/-- Why bytes give no instruction. -/
inductive DecodeError where
  /-- The word matches no row of 30_encoding R86 (R95): the step reports it and skips it. -/
  | unknownOpcode (op : Word)
  /-- Fewer than the two bytes an instruction has (30_encoding R80). -/
  | truncated
  deriving DecidableEq, Repr

/-- The major opcode `o = op[15:12]` (30_encoding R81). -/
def fieldO (op : Word) : Nibble := op.extractLsb' 12 4
/-- `x = op[11:8]` (30_encoding R81). -/
def fieldX (op : Word) : Nibble := op.extractLsb' 8 4
/-- `y = op[7:4]` (30_encoding R81). -/
def fieldY (op : Word) : Nibble := op.extractLsb' 4 4
/-- `n = op[3:0]` (30_encoding R81). -/
def fieldN (op : Word) : Nibble := op.extractLsb' 0 4
/-- `nn = op[7:0]` (30_encoding R81). -/
def fieldNN (op : Word) : Byte := op.extractLsb' 0 8
/-- `nnn = op[11:0]` (30_encoding R81). -/
def fieldNNN (op : Word) : Addr12 := op.extractLsb' 0 12

/-- Group 0 of the opcode map: the whole word selects (30_encoding R85). -/
def decode0 (op : Word) : Except DecodeError Instr :=
  if op = 0x00E0#16 then .ok .cls
  else if op = 0x00EE#16 then .ok .ret
  else .error (.unknownOpcode op)

/-- Group 8 of the opcode map: `n` selects (30_encoding R85). -/
def decode8 (op : Word) : Except DecodeError Instr :=
  match fieldN op with
  | 0x0#4 => .ok (.ldReg (fieldX op) (fieldY op))
  | 0x1#4 => .ok (.or (fieldX op) (fieldY op))
  | 0x2#4 => .ok (.and (fieldX op) (fieldY op))
  | 0x3#4 => .ok (.xor (fieldX op) (fieldY op))
  | 0x4#4 => .ok (.addReg (fieldX op) (fieldY op))
  | 0x5#4 => .ok (.sub (fieldX op) (fieldY op))
  | 0x6#4 => .ok (.shr (fieldX op) (fieldY op))
  | 0x7#4 => .ok (.subn (fieldX op) (fieldY op))
  | 0xE#4 => .ok (.shl (fieldX op) (fieldY op))
  | _ => .error (.unknownOpcode op)

/-- Group E of the opcode map: `nn` selects (30_encoding R85). -/
def decodeE (op : Word) : Except DecodeError Instr :=
  match fieldNN op with
  | 0x9E#8 => .ok (.skp (fieldX op))
  | 0xA1#8 => .ok (.sknp (fieldX op))
  | _ => .error (.unknownOpcode op)

/-- Group F of the opcode map: `nn` selects (30_encoding R85). -/
def decodeF (op : Word) : Except DecodeError Instr :=
  match fieldNN op with
  | 0x07#8 => .ok (.ldVxDt (fieldX op))
  | 0x0A#8 => .ok (.ldVxK (fieldX op))
  | 0x15#8 => .ok (.ldDtVx (fieldX op))
  | 0x18#8 => .ok (.ldStVx (fieldX op))
  | 0x1E#8 => .ok (.addIVx (fieldX op))
  | 0x29#8 => .ok (.ldFVx (fieldX op))
  | 0x33#8 => .ok (.ldBVx (fieldX op))
  | 0x55#8 => .ok (.ldMemVx (fieldX op))
  | 0x65#8 => .ok (.ldVxMem (fieldX op))
  | _ => .error (.unknownOpcode op)

/-- The decoder (30_encoding R85, R86, R95). It reads the word and nothing else (R87). -/
def decode (op : Word) : Except DecodeError Instr :=
  match fieldO op with
  | 0x0#4 => decode0 op
  | 0x1#4 => .ok (.jp (fieldNNN op))
  | 0x2#4 => .ok (.call (fieldNNN op))
  | 0x3#4 => .ok (.seImm (fieldX op) (fieldNN op))
  | 0x4#4 => .ok (.sneImm (fieldX op) (fieldNN op))
  | 0x5#4 =>
    if fieldN op = 0#4 then .ok (.seReg (fieldX op) (fieldY op)) else .error (.unknownOpcode op)
  | 0x6#4 => .ok (.ldImm (fieldX op) (fieldNN op))
  | 0x7#4 => .ok (.addImm (fieldX op) (fieldNN op))
  | 0x8#4 => decode8 op
  | 0x9#4 =>
    if fieldN op = 0#4 then .ok (.sneReg (fieldX op) (fieldY op)) else .error (.unknownOpcode op)
  | 0xA#4 => .ok (.ldI (fieldNNN op))
  | 0xB#4 => .ok (.jpV0 (fieldNNN op))
  | 0xC#4 => .ok (.rnd (fieldX op) (fieldNN op))
  | 0xD#4 => .ok (.drw (fieldX op) (fieldY op) (fieldN op))
  | 0xE#4 => decodeE op
  | 0xF#4 => decodeF op
  | _ => .error (.unknownOpcode op)

/-- The word of two bytes, the byte at the lower address in bits 15..8 (20_memory R61). -/
def wordOfBytes (hi lo : Byte) : Word := hi ++ lo

/-- The byte of a word that lies at the lower address (20_memory R61). -/
def highByte (op : Word) : Byte := op.extractLsb' 8 8
/-- The byte of a word that lies at the higher address (20_memory R61). -/
def lowByte (op : Word) : Byte := op.extractLsb' 0 8

/-- Decoding from a list of bytes: the instruction and the bytes after it. -/
def decodeBytes : List Byte → Except DecodeError (Instr × List Byte)
  | hi :: lo :: rest =>
    match decode (wordOfBytes hi lo) with
    | .ok i => .ok (i, rest)
    | .error e => .error e
  | _ => .error .truncated

/-- Formats `XY` and `XYN`: `o x y n`, one nibble each (30_encoding R82). -/
def wordXYN (o x y n : Nibble) : Word := o ++ x ++ y ++ n
/-- Formats `XB` and `X`: `o x` and a low byte (30_encoding R82). -/
def wordXB (o x : Nibble) (nn : Byte) : Word := o ++ x ++ nn
/-- Format `A`: `o nnn` (30_encoding R82). -/
def wordA (o : Nibble) (nnn : Addr12) : Word := o ++ nnn

/-- The encoder: the word of each instruction by its format (30_encoding R82, R86). -/
def encode : Instr → Word
  | .cls => 0x00E0#16
  | .ret => 0x00EE#16
  | .jp nnn => wordA 0x1#4 nnn
  | .call nnn => wordA 0x2#4 nnn
  | .seImm x nn => wordXB 0x3#4 x nn
  | .sneImm x nn => wordXB 0x4#4 x nn
  | .seReg x y => wordXYN 0x5#4 x y 0x0#4
  | .ldImm x nn => wordXB 0x6#4 x nn
  | .addImm x nn => wordXB 0x7#4 x nn
  | .ldReg x y => wordXYN 0x8#4 x y 0x0#4
  | .or x y => wordXYN 0x8#4 x y 0x1#4
  | .and x y => wordXYN 0x8#4 x y 0x2#4
  | .xor x y => wordXYN 0x8#4 x y 0x3#4
  | .addReg x y => wordXYN 0x8#4 x y 0x4#4
  | .sub x y => wordXYN 0x8#4 x y 0x5#4
  | .shr x y => wordXYN 0x8#4 x y 0x6#4
  | .subn x y => wordXYN 0x8#4 x y 0x7#4
  | .shl x y => wordXYN 0x8#4 x y 0xE#4
  | .sneReg x y => wordXYN 0x9#4 x y 0x0#4
  | .ldI nnn => wordA 0xA#4 nnn
  | .jpV0 nnn => wordA 0xB#4 nnn
  | .rnd x nn => wordXB 0xC#4 x nn
  | .drw x y n => wordXYN 0xD#4 x y n
  | .skp x => wordXB 0xE#4 x 0x9E#8
  | .sknp x => wordXB 0xE#4 x 0xA1#8
  | .ldVxDt x => wordXB 0xF#4 x 0x07#8
  | .ldVxK x => wordXB 0xF#4 x 0x0A#8
  | .ldDtVx x => wordXB 0xF#4 x 0x15#8
  | .ldStVx x => wordXB 0xF#4 x 0x18#8
  | .addIVx x => wordXB 0xF#4 x 0x1E#8
  | .ldFVx x => wordXB 0xF#4 x 0x29#8
  | .ldBVx x => wordXB 0xF#4 x 0x33#8
  | .ldMemVx x => wordXB 0xF#4 x 0x55#8
  | .ldVxMem x => wordXB 0xF#4 x 0x65#8

/-- The two bytes of an instruction as they lie in memory, lower address first (20_memory R61). -/
def encodeBytes (i : Instr) : List Byte := [highByte (encode i), lowByte (encode i)]

/-- What the decoder reads from an instruction whose bits, numbered as spec/opcode_table.json numbers
them, are `w`: the word's high byte lies at the lower address. -/
def decodeTableWord (nbits w : Nat) : Option Instr :=
  let op : Word := BitVec.ofNat 16 (w % 2 ^ nbits)
  match decodeBytes [highByte op, lowByte op] with
  | .ok (i, _) => some i
  | .error _ => none

end Sys2Proof
end

