-- ==== Sys2Proof/Config.lean ====
section
/-! DEFINITION. The implementation parameters of 00_scope R8 that a step's result depends on: the
out-of-range policy, the font table, and the free byte of CXNN. -/

namespace Sys2Proof

/-- `OOB_POLICY` (00_scope R8, 20_memory R62): what an access at an unreduced address of 4096 or
more does. `wrap` is the spec's default. -/
inductive OobPolicy where
  | wrap
  | fault
  deriving DecidableEq, Repr

/-- `MEM_SIZE`: 4096 bytes, fixed (00_scope R8). -/
abbrev Config.memSize : Nat := 4096

/-- `PROGRAM_BASE`: where a ROM is loaded and where PC starts (00_scope R8). -/
abbrev Config.programBase : Nat := 0x200

/-- `STACK_DEPTH`: 16 entries (00_scope R8). -/
abbrev Config.stackDepth : Nat := 16

/-- `GLYPH_BYTES`: 5 bytes a glyph (00_scope R8). -/
abbrev Config.glyphBytes : Nat := 5

/-- The number of font bytes: 16 glyphs of 5 bytes at 0x000 to 0x04F (20_memory R66). -/
abbrev Config.fontSize : Nat := 80

/-- Glyphs 0 to 3 of the standard font (20_memory R66). -/
def Config.glyphs0to3 : List Byte :=
  [0xF0, 0x90, 0x90, 0x90, 0xF0] ++ [0x20, 0x60, 0x20, 0x20, 0x70] ++
  [0xF0, 0x10, 0xF0, 0x80, 0xF0] ++ [0xF0, 0x10, 0xF0, 0x10, 0xF0]

/-- Glyphs 4 to 7 of the standard font (20_memory R66). -/
def Config.glyphs4to7 : List Byte :=
  [0x90, 0x90, 0xF0, 0x10, 0x10] ++ [0xF0, 0x80, 0xF0, 0x10, 0xF0] ++
  [0xF0, 0x80, 0xF0, 0x90, 0xF0] ++ [0xF0, 0x10, 0x20, 0x40, 0x40]

/-- Glyphs 8 to B of the standard font (20_memory R66). -/
def Config.glyphs8toB : List Byte :=
  [0xF0, 0x90, 0xF0, 0x90, 0xF0] ++ [0xF0, 0x90, 0xF0, 0x10, 0xF0] ++
  [0xF0, 0x90, 0xF0, 0x90, 0x90] ++ [0xE0, 0x90, 0xE0, 0x90, 0xE0]

/-- Glyphs C to F of the standard font (20_memory R66). -/
def Config.glyphsCtoF : List Byte :=
  [0xF0, 0x80, 0x80, 0x80, 0xF0] ++ [0xE0, 0x90, 0x90, 0x90, 0xE0] ++
  [0xF0, 0x80, 0xF0, 0x80, 0xF0] ++ [0xF0, 0x80, 0xF0, 0x80, 0x80]

/-- `FONT`: the configuration table of the 80 font bytes, at its default (20_memory R66). -/
def Config.font : List Byte :=
  Config.glyphs0to3 ++ Config.glyphs4to7 ++ Config.glyphs8toB ++ Config.glyphsCtoF

/-- `RAND`: the byte the environment supplies for the `k`-th draw (00_scope R8, 42_alu R171). A free
value: nothing constrains it, so a statement that holds, holds for every draw (log entry 1). -/
opaque Config.randByte : Nat → Byte

end Sys2Proof
end

