-- ==== Sys2Proof/Machine/State.lean ====
section
/-! DEFINITION. The state of the core: the fields of 10_state R20, plain data, and two fields of the
model's own (`oobPolicy`, `drawCount`); its value at reset (10_state R45); and the ways a step stops. -/

namespace Sys2Proof.Machine

/-- Why the core faulted: the values of `FAULT` other than `None` (10_state R20, 60_exceptions R260).
A fault of the SPEC is a next state of the model (`State.enterFault`), not an outcome of this file's
`Fault`. -/
inductive FaultCause where
  /-- Raised by 2NNN with SP = 16 (60_exceptions R262). -/
  | stackOverflow
  /-- Raised by 00EE with SP = 0 (60_exceptions R263). -/
  | stackUnderflow
  /-- Raised by a fetch or a data access at an address of 4096 or more, only under
  `OOB_POLICY` = `fault` (20_memory R62). -/
  | addressFault
  deriving DecidableEq, Repr

/-- The quirk register `Q` (10_state R40): five booleans, all 32 combinations legal. -/
structure Quirks where
  /-- 8XY6 and 8XYE shift `V[y]` into `V[x]`; when false they shift `V[x]`. -/
  shiftUsesVy : Bool
  /-- FX55 and FX65 advance I by x + 1. -/
  loadStoreIncrementsI : Bool
  /-- 8XY1, 8XY2 and 8XY3 zero VF. -/
  logicOpsResetVf : Bool
  /-- DXYN wraps off-screen pixels; when false it drops them. -/
  wrapSprites : Bool
  /-- FX1E writes VF with `I + V[x] > 0x0FFF`. -/
  fx1eSetsVf : Bool
  deriving DecidableEq, Repr

/-- `Q` at reset when the host presents no configuration (10_state R40, R45). -/
def Quirks.default : Quirks where
  shiftUsesVy := false
  loadStoreIncrementsI := false
  logicOpsResetVf := false
  wrapSprites := false
  fx1eSetsVf := true

/-- The framebuffer `PIX[c][r]`: 64 columns of 32 pixels, `true` = set (10_state R37, 00_scope R12). -/
abbrev Screen := Vector (Vector Bool 32) 64

/-- Every pixel 0. -/
def Screen.blank : Screen := Vector.replicate 64 (Vector.replicate 32 false)

/-- The architectural state of one core (10_state R20), every field with the width given there. -/
structure State where
  /-- `MEM`: the cells that differ from the reset contents, addresses strictly rising. -/
  mem : List Host.Cell
  /-- `V[0..16)` (10_state R21). -/
  v : Vector Byte 16
  /-- `I` (10_state R28). -/
  i : Word
  /-- `PC` (10_state R25). -/
  pc : Word
  /-- `STACK[0..16)` (10_state R29). -/
  stack : Vector Word 16
  /-- `SP`, the number of entries in use (10_state R30). -/
  sp : BitVec 5
  /-- `DT` (10_state R31). -/
  dt : Byte
  /-- `ST` (10_state R32). -/
  st : Byte
  /-- `KEYS`: bit n set iff key n is held (10_state R33). -/
  keys : Word
  /-- `KEY_WAITING` (10_state R34). -/
  keyWaiting : Bool
  /-- `REG_WAITING`, read only while waiting (10_state R34). -/
  regWaiting : Nibble
  /-- `FAULT`, `none` for `None` (10_state R34). -/
  fault : Option FaultCause
  /-- `FAULT_OP` (10_state R35). -/
  faultOp : Word
  /-- `FAULT_PC` (10_state R35). -/
  faultPc : Word
  /-- `PIX` (10_state R37). -/
  pix : Screen
  /-- `CLOCKSPEED`, read by no rule of the core (10_state R36). -/
  clockspeed : Nat
  /-- `Q` (10_state R40). -/
  quirks : Quirks
  /-- The MODEL'S OWN field: the parameter `OOB_POLICY` (00_scope R8); nothing writes it. -/
  oobPolicy : OobPolicy
  /-- The MODEL'S OWN field: the index of CXNN's next free byte (42_alu R171; log entry 1). -/
  drawCount : Nat
  deriving DecidableEq, Repr

/-- The machine right after reset (10_state R45, 70_reset_and_hazards R290, R291), with the default
quirks and the default `OOB_POLICY`. Memory lists nothing: it holds its reset contents. -/
def State.reset : State where
  mem := []
  v := Vector.replicate 16 0
  i := 0
  pc := 0x0200
  stack := Vector.replicate 16 0
  sp := 0
  dt := 0
  st := 0
  keys := 0
  keyWaiting := false
  regWaiting := 0
  fault := none
  faultOp := 0
  faultPc := 0
  pix := Screen.blank
  clockspeed := 600
  quirks := Quirks.default
  oobPolicy := .wrap
  drawCount := 0

/-- How the model itself stops. The spec's own faults are next states (60_exceptions R264). -/
inductive Fault where
  /-- Raised by CALL and RET on `STACK[k]` with k >= 16, which 00_scope R12 and 10_state R29 say does
  not exist; it needs SP > 16, which no well-formed state has (10_state R46). Safe: the model stops
  where the spec gives no behaviour. -/
  | stackIndexOutOfRange
  deriving DecidableEq, Repr

/-- The instructions without a meaning. -/
inductive Refusal where
  /-- Raised by the arm of an instruction that is not modelled. Safe: no next state is claimed. No
  arm raises it now: every instruction of the table has its meaning. -/
  | notModelled (mnemonic : String)
  deriving DecidableEq, Repr

/-- What a meaning answers. -/
abbrev Result := Host.Outcome State Fault Refusal

end Sys2Proof.Machine
end

