-- ==== Sys2Proof/Machine/Ops.lean ====
section
/-! DEFINITION. The named operations over the state: one update per register, memory by bytes, the
internal stack, the framebuffer, the free draw, and fault entry (60_exceptions R264). -/

namespace Sys2Proof.Machine

-- ==== registers: one home each ====

/-- `V[r]` (00_scope R12). -/
def State.reg (s : State) (r : Nibble) : Byte := s.v[r.toNat]'r.isLt

/-- `V[r] <- b` (00_scope R12). No register is hard-wired (10_state R21). -/
def State.setReg (s : State) (r : Nibble) (b : Byte) : State :=
  { s with v := s.v.set r.toNat b r.isLt }

/-- `PC <- a`. -/
def State.setPc (s : State) (a : Word) : State := { s with pc := a }

/-- `I <- a`. -/
def State.setI (s : State) (a : Word) : State := { s with i := a }

/-- `DT <- b`. -/
def State.setDt (s : State) (b : Byte) : State := { s with dt := b }

/-- `ST <- b`. -/
def State.setSt (s : State) (b : Byte) : State := { s with st := b }

/-- `KEYS <- k`. -/
def State.setKeys (s : State) (k : Word) : State := { s with keys := k }

/-- Enter the key wait with destination `r`: `KEY_WAITING <- 1; REG_WAITING <- r` (45_timers_keys R236). -/
def State.startWait (s : State) (r : Nibble) : State :=
  { s with keyWaiting := true, regWaiting := r }

/-- `KEY_WAITING <- 0` (45_timers_keys R247). -/
def State.endWait (s : State) : State := { s with keyWaiting := false }

/-- `PIX <- p`. -/
def State.setPix (s : State) (p : Screen) : State := { s with pix := p }

/-- `MEM <- m`, in canonical form. -/
def State.setMem (s : State) (m : List Host.Cell) : State := { s with mem := m }

/-- `STACK[k] <- w` for k < 16. -/
def State.setStack (s : State) (k : Nat) (w : Word) (h : k < 16) : State :=
  { s with stack := s.stack.set k w h }

/-- `SP <- n`. -/
def State.setSp (s : State) (n : BitVec 5) : State := { s with sp := n }

/-- `Q <- q` (60_exceptions R279). -/
def State.setQuirks (s : State) (q : Quirks) : State := { s with quirks := q }

/-- `CLOCKSPEED <- hz` (60_exceptions R280). -/
def State.setClockspeed (s : State) (hz : Nat) : State := { s with clockspeed := hz }

/-- `skip`, and the advance of the fetch: `PC <- (PC + 2) mod 2^16` (00_scope R12, 40_execution_cycle R113). -/
def State.advance (s : State) : State := s.setPc (s.pc + 2)

/-- `skip` when the condition holds (41_control_flow R138). -/
def State.skipIf (s : State) (c : Bool) : State := if c then s.advance else s

-- ==== memory ====

/-- What a byte of memory that the list does not hold reads as: the reset contents (10_state R45,
20_memory R66). -/
def background (a : Nat) : Byte := if a < Config.fontSize then Config.font.getD a 0 else 0

/-- The byte a memory holds at an address below 4096. -/
def cellRead : List Host.Cell → Nat → Byte
  | [], a => background a
  | (a', b) :: m, a => if a' = a then b else cellRead m a

/-- Put a cell in front, unless it holds what an unlisted address reads as. -/
def consCell (a : Nat) (b : Byte) (m : List Host.Cell) : List Host.Cell :=
  if b = background a then m else (a, b) :: m

/-- Write a byte at an address below 4096, keeping the canonical form. -/
def cellWrite : List Host.Cell → Nat → Byte → List Host.Cell
  | [], a, b => consCell a b []
  | (a', b') :: m, a, b =>
    if a < a' then consCell a b ((a', b') :: m)
    else if a = a' then consCell a b m
    else (a', b') :: cellWrite m a b

/-- The canonical form from address `lo` on. -/
def Memory.wfFrom : Nat → List Host.Cell → Bool
  | _, [] => true
  | lo, (a, b) :: m =>
    decide (lo ≤ a) && decide (a < Config.memSize) && decide (b ≠ background a) &&
      Memory.wfFrom (a + 1) m

/-- The canonical form of memory: addresses strictly rising and below 4096, no cell equal to what an
unlisted address reads as. -/
def Memory.wf (m : List Host.Cell) : Bool := Memory.wfFrom 0 m

/-- `MemRead(a, 1)`: the byte at `a mod 4096` (00_scope R12, 20_memory R62). -/
def State.readByte (s : State) (a : Nat) : Byte := cellRead s.mem (a % Config.memSize)

/-- `MemWrite(a, 1, b)`: write the byte at `a mod 4096` (00_scope R12, 20_memory R62). -/
def State.writeByte (s : State) (a : Nat) (b : Byte) : State :=
  s.setMem (cellWrite s.mem (a % Config.memSize) b)

/-- Write a list of bytes at rising addresses from `a` (20_memory R63). -/
def State.writeBytes (s : State) (a : Nat) : List Byte → State
  | [] => s
  | b :: bs => (s.writeByte a b).writeBytes (a + 1) bs

/-- The word at `a`: `MemRead(a, 1) ++ MemRead(a + 1, 1)` (20_memory R61). -/
def State.readWord (s : State) (a : Nat) : Word := wordOfBytes (s.readByte a) (s.readByte (a + 1))

/-- Whether `count` bytes from I on take in an unreduced address of 4096 or more while
`OOB_POLICY` = `fault` (20_memory R62). With no byte there is no access. -/
def State.dataFaults (s : State) (count : Nat) : Bool :=
  decide (s.oobPolicy = .fault) && decide (count ≠ 0) && decide (Config.memSize < s.i.toNat + count)

-- ==== fetch ====

/-- The gate at the top of the step: waiting or faulted (40_execution_cycle R111). -/
def State.gated (s : State) : Bool := s.fault.isSome || s.keyWaiting

/-- Whether the fetch raises AddressFault: PC >= 0x0FFF under `OOB_POLICY` = `fault` (40_execution_cycle R112). -/
def State.fetchFaults (s : State) : Bool :=
  decide (s.oobPolicy = .fault) && decide (0x0FFF ≤ s.pc.toNat)

/-- The instruction word at PC (40_execution_cycle R112). -/
def State.fetchWord (s : State) : Word := s.readWord s.pc.toNat

/-- Store a word as two bytes where the next fetch reads it (20_memory R61). -/
def State.storeAtPc (s : State) (op : Word) : State :=
  (s.writeByte s.pc.toNat (highByte op)).writeByte (s.pc.toNat + 1) (lowByte op)

/-- Out of the key wait and out of the faulted state: the run state `Running` (10_state R34). -/
def State.toRunning (s : State) : State := { s with keyWaiting := false, fault := none }

-- ==== faults ====

/-- Fault entry (60_exceptions R264): PC, FAULT, FAULT_OP and FAULT_PC are written, and nothing else. -/
def State.enterFault (s : State) (c : FaultCause) (op a : Word) : State :=
  { s with pc := a, fault := some c, faultOp := op, faultPc := a }

/-- A body raises `c`: the address of the instruction is PC less the advance of the fetch
(40_execution_cycle R113), and its word is the one that decodes to it (30_encoding R86; log entry 4). -/
def State.raise (s : State) (c : FaultCause) (i : Instr) : Result :=
  .next (s.enterFault c (encode i) (s.pc - 2))

-- ==== the internal stack ====

/-- Push: `STACK[SP] <- w; SP <- SP + 1` (10_state R30). `none` where `STACK[SP]` does not exist. -/
def State.push (s : State) (w : Word) : Option State :=
  if h : s.sp.toNat < 16 then some ((s.setStack s.sp.toNat w h).setSp (s.sp + 1)) else none

/-- Pop: `SP <- SP - 1; STACK[SP]` (10_state R30). `none` where `STACK[SP - 1]` does not exist. -/
def State.pop (s : State) : Option (Word × State) :=
  if h : (s.sp - 1).toNat < 16 then some (s.stack[(s.sp - 1).toNat]'h, s.setSp (s.sp - 1)) else none

/-- Answer the popped or pushed state, or stop on a stack entry that does not exist (log entry 5). -/
def stackResult : Option State → Result
  | some s => .next s
  | none => .fault .stackIndexOutOfRange

-- ==== the framebuffer ====

/-- `PIX[c][r]` (00_scope R12). -/
def Screen.pixel (p : Screen) (c : Fin 64) (r : Fin 32) : Bool := (p[c.val]'c.isLt)[r.val]'r.isLt

/-- `PIX[c][r] <- b` (00_scope R12). -/
def Screen.setPixel (p : Screen) (c : Fin 64) (r : Fin 32) (b : Bool) : Screen :=
  p.set c.val ((p[c.val]'c.isLt).set r.val b r.isLt) c.isLt

/-- `PIX[c][r]` of a state. -/
def State.pixel (s : State) (c : Fin 64) (r : Fin 32) : Bool := s.pix.pixel c r

-- ==== the free draw ====

/-- `draw_rand()`: the environment's byte for this execution (00_scope R12, 42_alu R171). -/
def State.drawnByte (s : State) : Byte := Config.randByte s.drawCount

/-- The draw is used up: the next CXNN takes a fresh one (42_alu R171). -/
def State.countDraw (s : State) : State := { s with drawCount := s.drawCount + 1 }

-- ==== run state and well-formedness ====

/-- The run state of 10_state R34. -/
inductive RunState where
  | running
  | waitingForKey (r : Nibble)
  | faulted (c : FaultCause)
  deriving DecidableEq, Repr

/-- The run state by the encoding of 10_state R34. -/
def State.runState (s : State) : RunState :=
  match s.fault with
  | some c => .faulted c
  | none => if s.keyWaiting then .waitingForKey s.regWaiting else .running

/-- Well-formedness (10_state R46): (a) SP <= 16; (b) REG_WAITING <= 15, by its width; (c) not both
waiting and faulted; (d) every field has its shape: memory is in its canonical form, and FAULT is
AddressFault only under `OOB_POLICY` = `fault` (R20). -/
def State.wellFormed (s : State) : Bool :=
  decide (s.sp.toNat ≤ 16) && !(s.keyWaiting && s.fault.isSome) && Memory.wf s.mem &&
    decide (s.fault = some .addressFault → s.oobPolicy = .fault)

end Sys2Proof.Machine
end

