-- ==== Sys2Proof/Machine/Flags.lean ====
section
/-! DEFINITION. Every flag computation of the instruction set (10_state R23). VF is the only flag
(R42); an instruction that writes it as a flag writes 0 or 1 on every execution (R22). -/

namespace Sys2Proof.Machine

/-- `bool(c)` as a register value: 1 or 0 (00_scope R11). -/
def flagByte (c : Bool) : Byte := if c then 1 else 0

/-- 8XY4's carry: `bool(vx + vy > 255)` (42_alu R166). -/
def addCarry (a b : Byte) : Bool := decide (255 < a.toNat + b.toNat)

/-- The not-borrow of `a - b`: `bool(a >= b)` (42_alu R167, R169). -/
def notBorrow (a b : Byte) : Bool := decide (b.toNat ≤ a.toNat)

/-- The bit a right shift by one shifts out: bit 0 (42_alu R168). -/
def shiftedOutRight (b : Byte) : Bool := b.getLsbD 0

/-- The bit a left shift by one shifts out: bit 7 (42_alu R170). -/
def shiftedOutLeft (b : Byte) : Bool := b.getLsbD 7

/-- FX1E's flag: the exact sum exceeds the last address of memory (43_index_memory R191). -/
def indexOverflow (i : Word) (b : Byte) : Bool := decide (0x0FFF < i.toNat + b.toNat)

/-- Write a result and then the flag: with x = F the flag is what remains (42_alu head; 10_state R23). -/
def State.setRegFlag (s : State) (x : Nibble) (b : Byte) (f : Bool) : State :=
  (s.setReg x b).setReg VF (flagByte f)

/-- Write a logic result, then zero VF under `logic_ops_reset_vf` (42_alu R163 to R165). -/
def State.setRegLogic (s : State) (x : Nibble) (b : Byte) : State :=
  if s.quirks.logicOpsResetVf then (s.setReg x b).setReg VF 0 else s.setReg x b

/-- Write VF as FX1E's flag under `fx1e_sets_vf` (43_index_memory R191). -/
def State.setIndexFlag (s : State) (f : Bool) : State :=
  if s.quirks.fx1eSetsVf then s.setReg VF (flagByte f) else s

end Sys2Proof.Machine
end

