-- ==== Sys2Proof/Machine/Operands.lean ====
section
/-! DEFINITION. Every operand form of the instruction set: immediates (30_encoding R83), the shift
source, the key index, the register block, and the sprite of DXYN (43_index_memory R196). -/

namespace Sys2Proof.Machine

/-- `zext_16(nnn)`: an address immediate as a 16-bit value (30_encoding R83). -/
def zext16 (nnn : Addr12) : Word := nnn.zeroExtend 16

/-- `zext_16(b)`: a byte as a 16-bit value (00_scope R11). -/
def byteToWord (b : Byte) : Word := b.zeroExtend 16

/-- The operand 8XY6 and 8XYE shift: `V[y]` under `shift_uses_vy`, else `V[x]` (42_alu R168, R170). -/
def State.shiftSource (s : State) (x y : Nibble) : Byte :=
  if s.quirks.shiftUsesVy then s.reg y else s.reg x

/-- Whether key `k` is held; an index of 16 or more names no key (45_timers_keys R230, R232). -/
def State.keyHeld (s : State) (k : Byte) : Bool := decide (k.toNat < 16) && s.keys.getLsbD k.toNat

/-- The registers V0 to V(n-1) as bytes, in order (30_encoding R84). -/
def State.regBlock (s : State) (n : Nat) : List Byte :=
  (List.range n).map fun k => s.reg (BitVec.ofNat 4 k)

/-- `V[k] <- MemRead(a + k, 1)` for the `n` values of k from `k` on, rising (43_index_memory R195). -/
def State.loadRegs (s : State) (a : Nat) : Nat → Nat → State
  | _, 0 => s
  | k, n + 1 => (s.setReg (BitVec.ofNat 4 k) (s.readByte (a + k))).loadRegs a (k + 1) n

/-- I after a block transfer of V0 to Vx: advanced by x + 1 under `load_store_increments_i`
(43_index_memory R194, R195). -/
def State.blockAdvance (s : State) (x : Nibble) : State :=
  if s.quirks.loadStoreIncrementsI then s.setI (s.i + BitVec.ofNat 16 (x.toNat + 1)) else s

/-- The three decimal digits of a byte, hundreds first (43_index_memory R193). -/
def bcdDigits (b : Byte) : List Byte :=
  [BitVec.ofNat 8 (b.toNat / 100), BitVec.ofNat 8 (b.toNat / 10 % 10), BitVec.ofNat 8 (b.toNat % 10)]

/-- `place`: where a sprite bit at exact coordinates (px, py) lands, `none` for dropped (44_display R213). -/
def place (wrap : Bool) (px py : Nat) : Option (Fin 64 × Fin 32) :=
  if wrap then some (⟨px % 64, Nat.mod_lt _ (by decide)⟩, ⟨py % 32, Nat.mod_lt _ (by decide)⟩)
  else if h : px < 64 ∧ py < 32 then some (⟨px, h.1⟩, ⟨py, h.2⟩)
  else none

/-- The pixels a sprite row `b` at (cx, py) lands on, left to right: bit 7 is the leftmost
(44_display R212). -/
def rowTargets (wrap : Bool) (cx py : Nat) (b : Byte) : List (Fin 64 × Fin 32) :=
  (List.range 8).filterMap fun c => if b.getLsbD (7 - c) then place wrap (cx + c) py else none

/-- The pixels the n-row sprite at I lands on at (cx, cy), rows top to bottom (44_display R211). -/
def State.spriteTargets (s : State) (cx cy : Byte) (n : Nat) : List (Fin 64 × Fin 32) :=
  (List.range n).flatMap fun r =>
    rowTargets s.quirks.wrapSprites cx.toNat (cy.toNat + r) (s.readByte (s.i.toNat + r))

/-- XOR one pixel, and whether it was set before (44_display R214, R215). -/
def flipPixel (acc : Screen × Bool) (t : Fin 64 × Fin 32) : Screen × Bool :=
  (acc.1.setPixel t.1 t.2 (!acc.1.pixel t.1 t.2), acc.2 || acc.1.pixel t.1 t.2)

/-- The primitive `draw(x, y, sprite_bits)`: the new screen, and whether a set pixel was turned off
(44_display R216). -/
def drawTargets (p : Screen) (ts : List (Fin 64 × Fin 32)) : Screen × Bool :=
  ts.foldl flipPixel (p, false)

end Sys2Proof.Machine
end

