-- ==== Sys2Proof/Machine/Alu.lean ====
section
/-! DEFINITION. The ALU instructions (42_alu R160 to R173): 8-bit unsigned, V[x] written first and VF
as a flag last. -/

namespace Sys2Proof.Machine

/-- `6XNN` LD Vx, nn (42_alu R160). -/
def execLdImm (x : Nibble) (nn : Byte) (s : State) : Result := .next (s.setReg x nn)

/-- `7XNN` ADD Vx, nn: no carry flag (42_alu R161). -/
def execAddImm (x : Nibble) (nn : Byte) (s : State) : Result := .next (s.setReg x (s.reg x + nn))

/-- `8XY0` LD Vx, Vy (42_alu R162). -/
def execLdReg (x y : Nibble) (s : State) : Result := .next (s.setReg x (s.reg y))

/-- `8XY1` OR (42_alu R163). -/
def execOr (x y : Nibble) (s : State) : Result := .next (s.setRegLogic x (s.reg x ||| s.reg y))

/-- `8XY2` AND (42_alu R164). -/
def execAnd (x y : Nibble) (s : State) : Result := .next (s.setRegLogic x (s.reg x &&& s.reg y))

/-- `8XY3` XOR (42_alu R165). -/
def execXor (x y : Nibble) (s : State) : Result := .next (s.setRegLogic x (s.reg x ^^^ s.reg y))

/-- `8XY4` ADD with carry out (42_alu R166). -/
def execAddReg (x y : Nibble) (s : State) : Result :=
  .next (s.setRegFlag x (s.reg x + s.reg y) (addCarry (s.reg x) (s.reg y)))

/-- `8XY5` SUB with not-borrow (42_alu R167). -/
def execSub (x y : Nibble) (s : State) : Result :=
  .next (s.setRegFlag x (s.reg x - s.reg y) (notBorrow (s.reg x) (s.reg y)))

/-- `8XY6` SHR with the shifted-out bit 0 (42_alu R168). -/
def execShr (x y : Nibble) (s : State) : Result :=
  .next (s.setRegFlag x (s.shiftSource x y >>> 1) (shiftedOutRight (s.shiftSource x y)))

/-- `8XY7` SUBN, the reverse subtract (42_alu R169). -/
def execSubn (x y : Nibble) (s : State) : Result :=
  .next (s.setRegFlag x (s.reg y - s.reg x) (notBorrow (s.reg y) (s.reg x)))

/-- `8XYE` SHL with the shifted-out bit 7 (42_alu R170). -/
def execShl (x y : Nibble) (s : State) : Result :=
  .next (s.setRegFlag x (s.shiftSource x y <<< 1) (shiftedOutLeft (s.shiftSource x y)))

/-- `CXNN` RND: a fresh free byte under the mask (42_alu R171). -/
def execRnd (x : Nibble) (nn : Byte) (s : State) : Result :=
  .next ((s.setReg x (s.drawnByte &&& nn)).countDraw)

end Sys2Proof.Machine
end

