-- ==== Sys2Proof/Machine/Control.lean ====
section
/-! DEFINITION. Control transfer (41_control_flow R130 to R139). A body sees PC already advanced past
its own word (40_execution_cycle R113), so a jump is an absolute overwrite. -/

namespace Sys2Proof.Machine

/-- `00EE` RET: StackUnderflow when SP = 0, else PC takes the popped entry (41_control_flow R130). -/
def execRet (s : State) : Result :=
  if s.sp = 0 then s.raise .stackUnderflow .ret
  else stackResult (s.pop.map fun p => p.2.setPc p.1)

/-- `1NNN` JP (41_control_flow R131). -/
def execJp (nnn : Addr12) (s : State) : Result := .next (s.setPc (zext16 nnn))

/-- `2NNN` CALL: StackOverflow when SP = 16, else push the advanced PC and jump (41_control_flow R132). -/
def execCall (nnn : Addr12) (s : State) : Result :=
  if s.sp = 16 then s.raise .stackOverflow (.call nnn)
  else stackResult ((s.push s.pc).map fun t => t.setPc (zext16 nnn))

/-- `3XNN` SE Vx, nn (41_control_flow R133). -/
def execSeImm (x : Nibble) (nn : Byte) (s : State) : Result := .next (s.skipIf (s.reg x == nn))

/-- `4XNN` SNE Vx, nn (41_control_flow R134). -/
def execSneImm (x : Nibble) (nn : Byte) (s : State) : Result := .next (s.skipIf (s.reg x != nn))

/-- `5XY0` SE Vx, Vy (41_control_flow R135). -/
def execSeReg (x y : Nibble) (s : State) : Result := .next (s.skipIf (s.reg x == s.reg y))

/-- `9XY0` SNE Vx, Vy (41_control_flow R136). -/
def execSneReg (x y : Nibble) (s : State) : Result := .next (s.skipIf (s.reg x != s.reg y))

/-- `BNNN` JP V0, nnn: always V0 (41_control_flow R137). -/
def execJpV0 (nnn : Addr12) (s : State) : Result :=
  .next (s.setPc (byteToWord (s.reg 0) + zext16 nnn))

end Sys2Proof.Machine
end

