-- ==== Sys2Proof/Machine/Display.lean ====
section
/-! DEFINITION. The display instructions (44_display R210 to R221). -/

namespace Sys2Proof.Machine

/-- `00E0` CLS (44_display R210). -/
def execCls (s : State) : Result := .next (s.setPix Screen.blank)

/-- `DXYN` DRW: XOR the n-row sprite at I onto the screen at (V[x], V[y]), both read before VF is
written, and VF <- collision (44_display R211 to R217). -/
def execDrw (x y n : Nibble) (s : State) : Result :=
  if s.dataFaults n.toNat then s.raise .addressFault (.drw x y n)
  else
    let drawn := drawTargets s.pix (s.spriteTargets (s.reg x) (s.reg y) n.toNat)
    .next ((s.setPix drawn.1).setReg VF (flagByte drawn.2))

end Sys2Proof.Machine
end

