-- ==== Sys2Proof/Machine/Index.lean ====
section
/-! DEFINITION. The index register and memory instructions (43_index_memory R190 to R196). Those that
access memory raise AddressFault before any access under `OOB_POLICY` = `fault` (20_memory R62). -/

namespace Sys2Proof.Machine

/-- `ANNN` LD I, nnn (43_index_memory R190). -/
def execLdI (nnn : Addr12) (s : State) : Result := .next (s.setI (zext16 nnn))

/-- `FX1E` ADD I, Vx, with the quirk's flag from the exact sum (43_index_memory R191). -/
def execAddIVx (x : Nibble) (s : State) : Result :=
  .next ((s.setI (s.i + byteToWord (s.reg x))).setIndexFlag (indexOverflow s.i (s.reg x)))

/-- `FX29` LD F, Vx: I <- vx * 5, vx not masked (43_index_memory R192). -/
def execLdFVx (x : Nibble) (s : State) : Result := .next (s.setI (byteToWord (s.reg x) * 5))

/-- `FX33` LD B, Vx (43_index_memory R193). -/
def execLdBVx (x : Nibble) (s : State) : Result :=
  if s.dataFaults 3 then s.raise .addressFault (.ldBVx x)
  else .next (s.writeBytes s.i.toNat (bcdDigits (s.reg x)))

/-- `FX55` LD [I], Vx (43_index_memory R194). -/
def execLdMemVx (x : Nibble) (s : State) : Result :=
  if s.dataFaults (x.toNat + 1) then s.raise .addressFault (.ldMemVx x)
  else .next ((s.writeBytes s.i.toNat (s.regBlock (x.toNat + 1))).blockAdvance x)

/-- `FX65` LD Vx, [I] (43_index_memory R195). -/
def execLdVxMem (x : Nibble) (s : State) : Result :=
  if s.dataFaults (x.toNat + 1) then s.raise .addressFault (.ldVxMem x)
  else .next ((s.loadRegs s.i.toNat 0 (x.toNat + 1)).blockAdvance x)

end Sys2Proof.Machine
end

