-- ==== Sys2Proof/Machine/KeysTimers.lean ====
section
/-! DEFINITION. The keypad, timer and key-wait instructions (45_timers_keys R230 to R236). -/

namespace Sys2Proof.Machine

/-- `EX9E` SKP Vx (45_timers_keys R230). -/
def execSkp (x : Nibble) (s : State) : Result := .next (s.skipIf (s.keyHeld (s.reg x)))

/-- `EXA1` SKNP Vx (45_timers_keys R231). -/
def execSknp (x : Nibble) (s : State) : Result := .next (s.skipIf (!s.keyHeld (s.reg x)))

/-- `FX07` LD Vx, DT (45_timers_keys R233). -/
def execLdVxDt (x : Nibble) (s : State) : Result := .next (s.setReg x s.dt)

/-- `FX0A` LD Vx, K: enter the key wait; Vx is written by the key_up that ends it (45_timers_keys R236). -/
def execLdVxK (x : Nibble) (s : State) : Result := .next (s.startWait x)

/-- `FX15` LD DT, Vx (45_timers_keys R234). -/
def execLdDtVx (x : Nibble) (s : State) : Result := .next (s.setDt (s.reg x))

/-- `FX18` LD ST, Vx (45_timers_keys R235). -/
def execLdStVx (x : Nibble) (s : State) : Result := .next (s.setSt (s.reg x))

end Sys2Proof.Machine
end

