-- ==== Sys2Proof/Machine/Step.lean ====
section
/-! DEFINITION. The step transaction (40_execution_cycle R110 to R119), and where an instruction is put
so that the next step runs it. -/

namespace Sys2Proof.Machine

/-- One step (40_execution_cycle R116): the gate, the fetch, the advance, decode and dispatch. A word
that decodes to Unknown only advances PC (R115). -/
def step (s : State) : Host.Outcome State Fault Refusal :=
  if s.gated then .next s
  else if s.fetchFaults then .next (s.enterFault .addressFault 0 s.pc)
  else
    match decode s.fetchWord with
    | .ok i => exec i s.advance
    | .error _ => .next s.advance

/-- `s` with the instruction of bits `w` stored where the next step fetches, in the run state
`Running`, which the fetch needs. -/
def State.withFetchWord (s : State) (nbits w : Nat) : State :=
  s.toRunning.storeAtPc (BitVec.ofNat 16 (w % 2 ^ nbits))

end Sys2Proof.Machine
end

