-- ==== Sys2Proof/Machine/HostInterface.lean ====
section
/-! DEFINITION. The host interface (60_exceptions R270 to R282): the step's report, the other
transactions, each with what it answers, and the observables. -/

namespace Sys2Proof.Machine

-- ==== the step's report ====

/-- The optional report of a step (40_execution_cycle R110, 60_exceptions R260). It is an output of
the step, not state (R261). -/
inductive Report where
  | none
  | unknownOpcode (op pc : Word)
  | fault (c : FaultCause) (op pc : Word)
  deriving DecidableEq, Repr

/-- The report kind's number: 1 to 4 are the codes of 60_exceptions R260. The spec gives `None` no code;
its 0 here is DESIGN CHOICE (log entry 14). -/
def Report.kind : Report → Nat
  | .none => 0
  | .unknownOpcode _ _ => 1
  | .fault .stackOverflow _ _ => 2
  | .fault .stackUnderflow _ _ => 3
  | .fault .addressFault _ _ => 4

/-- The report of a body run from a state without a fault: the fault record it left, if it faulted
(60_exceptions R264). -/
def reportOfResult : Result → Report
  | .next t =>
    match t.fault with
    | some c => .fault c t.faultOp t.faultPc
    | .none => .none
  | .fault _ => .none
  | .refused _ => .none

/-- The report of the step from `s` (40_execution_cycle R116). -/
def stepReport (s : State) : Report :=
  if s.gated then .none
  else if s.fetchFaults then .fault .addressFault 0 s.pc
  else
    match decode s.fetchWord with
    | .ok i => reportOfResult (exec i s.advance)
    | .error _ => .unknownOpcode s.fetchWord s.pc

-- ==== the transactions ====

/-- `init(config)` (70_reset_and_hazards R290, 60_exceptions R271): every field at its reset value, `Q`
from the configuration if one is given, the font bytes from the parameter `FONT`. The parameter
`OOB_POLICY` and the draw counter are not fields of 10_state R20 and stay. -/
def State.init (s : State) (font : Vector Byte 80) (config : Option Quirks) : State :=
  { (State.reset.writeBytes 0 font.toList) with
    quirks := config.getD Quirks.default, oobPolicy := s.oobPolicy, drawCount := s.drawCount }

/-- Whether `load_rom` accepts: at most 4096 - 0x200 bytes (70_reset_and_hazards R292, R293). -/
def romFits (bytes : List Byte) : Bool := decide (bytes.length ≤ Config.memSize - Config.programBase)

/-- `load_rom(bytes)` that is accepted (70_reset_and_hazards R292). -/
def State.loadRom (s : State) (bytes : List Byte) : State := s.writeBytes Config.programBase bytes

/-- A countdown timer's next value: never below zero (45_timers_keys R240). -/
def countDown (b : Byte) : Byte := if b = 0 then 0 else b - 1

/-- `tick_timers()` (45_timers_keys R240), in any run state (R241). -/
def State.tick (s : State) : State := (s.setDt (countDown s.dt)).setSt (countDown s.st)

/-- `key_down(k)` (45_timers_keys R245). -/
def State.keyDown (s : State) (k : Nat) : State :=
  if k < 16 then s.setKeys (s.keys ||| (1#16 <<< k)) else s

/-- `KEYS[k] <- 0` (45_timers_keys R246). -/
def State.releaseKey (s : State) (k : Nat) : State := s.setKeys (s.keys &&& ~~~(1#16 <<< k))

/-- `key_up(k)`: while waiting it also ends the wait and writes the waiting register, whether or not
the key was held (45_timers_keys R246, R247). -/
def State.keyUp (s : State) (k : Nat) : State :=
  if k < 16 then
    match s.runState with
    | .waitingForKey r => ((s.releaseKey k).setReg r (BitVec.ofNat 8 k)).endWait
    | .running => s.releaseKey k
    | .faulted _ => s.releaseKey k
  else s

/-- A snapshot as this machine would hold it: the fields of 10_state R20 from the snapshot, the
parameter `OOB_POLICY` and the draw counter its own (log entry 3). -/
def State.adopt (s snapshot : State) : State :=
  { snapshot with oobPolicy := s.oobPolicy, drawCount := s.drawCount }

/-- Whether `restore` is admitted: the state it would give is well formed (70_reset_and_hazards R297). -/
def State.admits (s snapshot : State) : Bool := (s.adopt snapshot).wellFormed

/-- The host's transactions (60_exceptions R270). -/
inductive Transaction where
  | init (font : Vector Byte 80) (config : Option Quirks)
  | loadRom (bytes : List Byte)
  | step
  | tickTimers
  | keyDown (k : Nat)
  | keyUp (k : Nat)
  | save
  | restore (snapshot : State)
  | setQuirks (config : Quirks)
  | setClockspeed (hz : Nat)

/-- What a transaction answers beside the next state. -/
inductive Response where
  /-- Done, with nothing to report. -/
  | done
  /-- The failure result of a rejected transaction (D36). -/
  | rejected
  /-- The report of a step. -/
  | report (r : Report)
  /-- The snapshot of a save (70_reset_and_hazards R296). -/
  | snapshot (s : State)

/-- A step with its report. -/
def stepTransaction (s : State) : Host.Outcome (State × Response) Fault Refusal :=
  match step s with
  | .next t => .next (t, .report (stepReport s))
  | .fault f => .fault f
  | .refused r => .refused r

/-- One transaction, atomic (60_exceptions R270 to R280). -/
def transact (t : Transaction) (s : State) : Host.Outcome (State × Response) Fault Refusal :=
  match t with
  | .init font config => .next (s.init font config, .done)
  | .loadRom bytes => .next (if romFits bytes then (s.loadRom bytes, .done) else (s, .rejected))
  | .step => stepTransaction s
  | .tickTimers => .next (s.tick, .done)
  | .keyDown k => .next (s.keyDown k, .done)
  | .keyUp k => .next (s.keyUp k, .done)
  | .save => .next (s, .snapshot s)
  | .restore snapshot =>
    .next (if s.admits snapshot then (s.adopt snapshot, .done) else (s, .rejected))
  | .setQuirks config => .next (s.setQuirks config, .done)
  | .setClockspeed hz => .next (if 1 ≤ hz then (s.setClockspeed hz, .done) else (s, .rejected))

-- ==== the observables ====

/-- `read_pixel(c, r)`, refused outside 64 x 32 (44_display R220, D35). -/
def State.readPixel (s : State) (c r : Nat) : Option Bool :=
  if h : c < 64 ∧ r < 32 then some (s.pixel ⟨c, h.1⟩ ⟨r, h.2⟩) else none

/-- `SOUND_ACTIVE` (45_timers_keys R242). -/
def State.soundActive (s : State) : Bool := decide (0 < s.st.toNat)

/-- The default `FONT` as the argument of init (00_scope R8). -/
def defaultFont : Vector Byte 80 := ⟨Config.font.toArray, by decide⟩

end Sys2Proof.Machine
end

