-- ==== Sys2Proof/Safety.lean ====
section
/-! DEFINITION. What counts as a safe run, and the terms the statements use: the parts of the state and
what it is for two states to agree on all but some of them. -/

namespace Sys2Proof.Machine

/-- A step that stays inside the spec: it answers a next state that is well formed (40_execution_cycle
R117, 10_state R46). The spec's own faults are such next states. -/
def StepSafe (s : State) : Prop := ∃ t, step s = .next t ∧ t.wellFormed = true

/-- The parts of the state other than the general registers: each field or group of fields of 10_state
R20 that some instruction or transaction writes, and the model's draw counter. -/
inductive Part where
  | memory | index | pc | stack | delay | sound | keys | wait | faultRecord | screen | draws
  deriving DecidableEq, Repr

/-- Two states agree on a part. Memory and screen are compared as they read. -/
def Part.same (s t : State) : Part → Prop
  | .memory => ∀ a, t.readByte a = s.readByte a
  | .index => t.i = s.i
  | .pc => t.pc = s.pc
  | .stack => t.stack = s.stack ∧ t.sp = s.sp
  | .delay => t.dt = s.dt
  | .sound => t.st = s.st
  | .keys => t.keys = s.keys
  | .wait => t.keyWaiting = s.keyWaiting ∧ t.regWaiting = s.regWaiting
  | .faultRecord => t.fault = s.fault ∧ t.faultOp = s.faultOp ∧ t.faultPc = s.faultPc
  | .screen => ∀ c r, t.pixel c r = s.pixel c r
  | .draws => t.drawCount = s.drawCount

/-- The frame: `t` agrees with `s` but for the registers `regs` and the parts `parts`. The quirks, the
clockspeed and the parameter `OOB_POLICY`, which no instruction writes, agree always. -/
def Frame (s t : State) (regs : List Nibble) (parts : List Part) : Prop :=
  (∀ q, q ∉ regs → t.reg q = s.reg q) ∧ (∀ p, p ∉ parts → p.same s t) ∧
    t.quirks = s.quirks ∧ t.clockspeed = s.clockspeed ∧ t.oobPolicy = s.oobPolicy

/-- `t` is `s` after fault entry with cause `c` for the word `op` at address `a` (60_exceptions R264):
the four writes, and nothing else. -/
def FaultEntered (s t : State) (c : FaultCause) (op a : Word) : Prop :=
  t.pc = a ∧ t.fault = some c ∧ t.faultOp = op ∧ t.faultPc = a ∧ Frame s t [] [.pc, .faultRecord]

/-- A run state `Running` whose fetch does not fault: the next step decodes the word at PC. -/
def Fetches (s : State) : Prop := s.runState = .running ∧ s.fetchFaults = false

/-- What a flag-writing ALU instruction leaves: VF the flag, 1 or 0, written last; V[x] the result where
x is not F; nothing else (42_alu head, 10_state R23). -/
def FlagResult (s t : State) (x : Nibble) (result : Nat) (flag : Prop) : Prop :=
  (flag → t.reg VF = 1) ∧ (¬flag → t.reg VF = 0) ∧ (x ≠ VF → (t.reg x).toNat = result) ∧
    Frame s t [x, VF] []

/-- What a logic instruction leaves: V[x] the result, and VF zeroed last under `logic_ops_reset_vf`
(42_alu R163 to R165). -/
def LogicResult (s t : State) (x : Nibble) (result : Byte) : Prop :=
  if s.quirks.logicOpsResetVf then
    t.reg VF = 0 ∧ (x ≠ VF → t.reg x = result) ∧ Frame s t [x, VF] []
  else t.reg x = result ∧ Frame s t [x] []

/-- Where PC is after `i` ran without a fault in a step from `s`, whose PC is the instruction's address
(10_state R26). -/
def PcAfter (s : State) (a : Word) : Instr → Prop
  | .jp nnn => a.toNat = nnn.toNat
  | .jpV0 nnn => a.toNat = (s.reg 0).toNat + nnn.toNat
  | .call nnn => a.toNat = nnn.toNat
  | .ret => s.stack[s.sp.toNat - 1]? = some a
  | .seImm x nn => a = if s.reg x = nn then s.pc + 4 else s.pc + 2
  | .sneImm x nn => a = if s.reg x = nn then s.pc + 2 else s.pc + 4
  | .seReg x y => a = if s.reg x = s.reg y then s.pc + 4 else s.pc + 2
  | .sneReg x y => a = if s.reg x = s.reg y then s.pc + 2 else s.pc + 4
  | .skp x => a = if (s.reg x).toNat < 16 ∧ s.keys.getLsbD (s.reg x).toNat = true then s.pc + 4
      else s.pc + 2
  | .sknp x => a = if (s.reg x).toNat < 16 ∧ s.keys.getLsbD (s.reg x).toNat = true then s.pc + 2
      else s.pc + 4
  | .cls | .ldImm _ _ | .addImm _ _ | .ldReg _ _ | .or _ _ | .and _ _ | .xor _ _ | .addReg _ _
  | .sub _ _ | .shr _ _ | .subn _ _ | .shl _ _ | .ldI _ | .rnd _ _ | .drw _ _ _ | .ldVxDt _
  | .ldVxK _ | .ldDtVx _ | .ldStVx _ | .addIVx _ | .ldFVx _ | .ldBVx _ | .ldMemVx _
  | .ldVxMem _ => a = s.pc + 2

/-- Whether `i` writes register `q` in a step, by 10_state R24 (as `V[x]`) or R23 (VF as a flag). FX0A
writes its register only at the key_up. -/
def Writes (s : State) (q : Nibble) : Instr → Prop
  | .ldImm x _ | .addImm x _ | .ldReg x _ | .rnd x _ | .ldVxDt x => q = x
  | .or x _ | .and x _ | .xor x _ => q = x ∨ q = VF ∧ s.quirks.logicOpsResetVf = true
  | .addReg x _ | .sub x _ | .shr x _ | .subn x _ | .shl x _ => q = x ∨ q = VF
  | .drw _ _ _ => q = VF
  | .addIVx _ => q = VF ∧ s.quirks.fx1eSetsVf = true
  | .ldVxMem x => q.toNat ≤ x.toNat
  | .cls | .ret | .jp _ | .call _ | .seImm _ _ | .sneImm _ _ | .seReg _ _ | .sneReg _ _ | .ldI _
  | .jpV0 _ | .skp _ | .sknp _ | .ldVxK _ | .ldDtVx _ | .ldStVx _ | .ldFVx _ | .ldBVx _
  | .ldMemVx _ => False

/-- How many bytes of memory from I on an instruction's body uses (43_index_memory R196). -/
def dataBytes : Instr → Nat
  | .drw _ _ n => n.toNat
  | .ldBVx _ => 3
  | .ldMemVx x => x.toNat + 1
  | .ldVxMem x => x.toNat + 1
  | .cls | .ret | .jp _ | .call _ | .seImm _ _ | .sneImm _ _ | .seReg _ _ | .ldImm _ _ | .addImm _ _
  | .ldReg _ _ | .or _ _ | .and _ _ | .xor _ _ | .addReg _ _ | .sub _ _ | .shr _ _ | .subn _ _
  | .shl _ _ | .sneReg _ _ | .ldI _ | .jpV0 _ | .rnd _ _ | .skp _ | .sknp _ | .ldVxDt _ | .ldVxK _
  | .ldDtVx _ | .ldStVx _ | .addIVx _ | .ldFVx _ => 0

/-- Whether every unreduced data address of `count` bytes from I is allowed (20_memory R62). -/
def InRange (s : State) (count : Nat) : Prop :=
  s.oobPolicy = .fault → count ≠ 0 → s.i.toNat + count ≤ 4096

/-- Whether pixel (c, r) is a non-dropped target of the n-row sprite at I drawn at (cx, cy): some set
bit lands on it (44_display R211 to R213). -/
def SpriteCovers (s : State) (cx cy : Byte) (n : Nat) (c : Fin 64) (r : Fin 32) : Prop :=
  ∃ k < n, ∃ j < 8, (s.readByte (s.i.toNat + k)).getLsbD (7 - j) = true ∧
    if s.quirks.wrapSprites then c.val = (cx.toNat + j) % 64 ∧ r.val = (cy.toNat + k) % 32
    else c.val = cx.toNat + j ∧ r.val = cy.toNat + k

/-- The transactions that replace the whole state (60_exceptions R266). -/
def Transaction.replacesState : Transaction → Bool
  | .init _ _ => true
  | .restore _ => true
  | _ => false

/-- The key_up transactions that end a wait (45_timers_keys R247). -/
def Transaction.endsWait : Transaction → Bool
  | .keyUp k => decide (k < 16)
  | _ => false

end Sys2Proof.Machine
end

