-- ==== Sys2Proof/Certificates/Slice0/Obligations.lean ====
section
/-! DEFINITION. The statements for the provers, from the numbered rules of spec/. In a statement about
`exec`, the state is the one the body sees: PC is already past the instruction (40_execution_cycle
R113), so the instruction's own address is PC - 2. -/

open Sys2Proof Sys2Proof.Machine

-- ==== encoding ====

/-- 30_encoding R82, R86: no bit of an encoding is dropped. -/
def Obligations.DecodeEncodeRoundTrip : Prop := ∀ i : Instr, decode (encode i) = .ok i

/-- 30_encoding R86: a word that decodes has one spelling, the one the encoder writes. -/
def Obligations.DecodedWordIsItsEncoding : Prop :=
  ∀ (op : Word) (i : Instr), decode op = .ok i → encode i = op

/-- 30_encoding R86: a word decodes by the one row of the table whose mask and match it meets, and to
Unknown when it meets none. -/
def Obligations.DecodeFollowsOpcodeTable : Prop :=
  ∀ op : Word,
    (∀ i, decode op = .ok i → i.row ∈ opcodeRows ∧ i.row.covers op = true ∧
      ∀ row ∈ opcodeRows, row.covers op = true → row = i.row) ∧
    (∀ e, decode op = .error e → e = .unknownOpcode op ∧
      ∀ row ∈ opcodeRows, row.covers op = false)

/-- 30_encoding R95: the unknown words are those of the listed groups. -/
def Obligations.UnknownWordsAreTheListedGroups : Prop :=
  ∀ op : Word, decode op = .error (.unknownOpcode op) ↔ wellFormedWord op = false

/-- 95_test_vectors V2.1 and the examples of the rules: words written out from the spec. -/
def Obligations.SampleWordsDecode : Prop :=
  decode 0x00E0 = .ok .cls ∧ decode 0x1234 = .ok (.jp 0x234) ∧ decode 0x5120 = .ok (.seReg 1 2) ∧
  decode 0x8F14 = .ok (.addReg 0xF 1) ∧ decode 0xC30F = .ok (.rnd 3 0x0F) ∧
  decode 0xD015 = .ok (.drw 0 1 5) ∧ decode 0xEFA1 = .ok (.sknp 0xF) ∧
  decode 0xF265 = .ok (.ldVxMem 2) ∧ decode 0x5121 = .error (.unknownOpcode 0x5121) ∧
  decode 0x0123 = .error (.unknownOpcode 0x0123)

-- ==== the step ====

/-- 40_execution_cycle R113, R114, 20_memory R61: a step runs the decoded instruction on the state
whose PC has moved past the word's two bytes, and reports nothing if that raises no fault. -/
def Obligations.StepRunsDecodedInstruction : Prop :=
  ∀ (s : State) (i : Instr), Fetches s →
    decode (wordOfBytes (s.readByte s.pc.toNat) (s.readByte (s.pc.toNat + 1))) = .ok i →
    step s = exec i (s.setPc (s.pc + 2)) ∧
    ∀ t, exec i (s.setPc (s.pc + 2)) = .next t → t.fault = none → stepReport s = .none

/-- 40_execution_cycle R111. -/
def Obligations.GatedStepDoesNothing : Prop :=
  ∀ s : State, s.runState ≠ .running → step s = .next s ∧ stepReport s = .none

/-- 40_execution_cycle R115, 60_exceptions R261. -/
def Obligations.UnknownOpcodeIsReportedAndSkipped : Prop :=
  ∀ (s : State) (e : DecodeError), Fetches s →
    decode (wordOfBytes (s.readByte s.pc.toNat) (s.readByte (s.pc.toNat + 1))) = .error e →
    step s = .next (s.setPc (s.pc + 2)) ∧ (s.setPc (s.pc + 2)).runState = .running ∧
    stepReport s = .unknownOpcode
      (wordOfBytes (s.readByte s.pc.toNat) (s.readByte (s.pc.toNat + 1))) s.pc

/-- 20_memory R62, 40_execution_cycle R112: a fetch at PC >= 0x0FFF faults under `OOB_POLICY` = `fault`,
with FAULT_OP 0x0000, and no other fetch faults; every address is read modulo 4096. -/
def Obligations.FetchFaultsOnlyUnderFaultPolicy : Prop :=
  (∀ s : State, s.runState = .running →
    if s.oobPolicy = .fault ∧ 0x0FFF ≤ s.pc.toNat then
      stepReport s = .fault .addressFault 0 s.pc ∧
        ∃ t, step s = .next t ∧ FaultEntered s t .addressFault 0 s.pc
    else Fetches s) ∧
  ∀ (s : State) (a : Nat), s.readByte a = s.readByte (a % 4096)

/-- 60_exceptions R264: a fault is precise. Whatever the step raised it on, the state is as it was but
for the fault record; PC is the instruction's address, which it already was; and the step reports it. -/
def Obligations.FaultEntryIsPrecise : Prop :=
  ∀ (s t : State) (c : FaultCause), s.runState = .running → step s = .next t → t.fault = some c →
    FaultEntered s t c (if s.fetchFaults then 0 else s.fetchWord) s.pc ∧
    stepReport s = .fault c (if s.fetchFaults then 0 else s.fetchWord) s.pc

-- ==== control transfer ====

/-- 41_control_flow R130, 60_exceptions R263. -/
def Obligations.RetPopsOrUnderflows : Prop :=
  ∀ s : State,
    (s.sp.toNat = 0 →
      ∃ t, exec .ret s = .next t ∧ FaultEntered s t .stackUnderflow 0x00EE (s.pc - 2)) ∧
    (0 < s.sp.toNat → s.sp.toNat ≤ 16 →
      ∃ t w, exec .ret s = .next t ∧ s.stack[s.sp.toNat - 1]? = some w ∧ t.pc = w ∧
        t.sp.toNat = s.sp.toNat - 1 ∧ t.stack = s.stack ∧ Frame s t [] [.pc, .stack])

/-- 41_control_flow R132, 60_exceptions R262. -/
def Obligations.CallPushesOrOverflows : Prop :=
  ∀ (nnn : Addr12) (s : State),
    (s.sp.toNat = 16 →
      ∃ t, exec (.call nnn) s = .next t ∧
        FaultEntered s t .stackOverflow (encode (.call nnn)) (s.pc - 2)) ∧
    (s.sp.toNat < 16 →
      ∃ t, exec (.call nnn) s = .next t ∧ t.stack[s.sp.toNat]? = some s.pc ∧
        (∀ k : Nat, k ≠ s.sp.toNat → t.stack[k]? = s.stack[k]?) ∧
        t.sp.toNat = s.sp.toNat + 1 ∧ t.pc.toNat = nnn.toNat ∧ Frame s t [] [.pc, .stack])

/-- The model's choice (log entry 5) where the spec gives nothing: SP > 16 is no well-formed state
(10_state R46) and `STACK[k]` exists for k < 16 only (00_scope R12), so RET and CALL stop there. -/
def Obligations.StackAccessBeyondDepthStops : Prop :=
  ∀ (nnn : Addr12) (s : State), 16 < s.sp.toNat →
    exec .ret s = .fault .stackIndexOutOfRange ∧
    exec (.call nnn) s = .fault .stackIndexOutOfRange

/-- 41_control_flow R131, R137: absolute targets; BNNN always adds V0, and its sum never wraps. -/
def Obligations.JumpsOverwritePc : Prop :=
  ∀ (nnn : Addr12) (s : State),
    (∃ t, exec (.jp nnn) s = .next t ∧ t.pc.toNat = nnn.toNat ∧ Frame s t [] [.pc]) ∧
    (∃ t, exec (.jpV0 nnn) s = .next t ∧ t.pc.toNat = (s.reg 0).toNat + nnn.toNat ∧
      Frame s t [] [.pc])

/-- 41_control_flow R133, R134, R138. -/
def Obligations.ImmediateSkips : Prop :=
  ∀ (x : Nibble) (nn : Byte) (s : State),
    (∃ t, exec (.seImm x nn) s = .next t ∧
      t.pc = (if s.reg x = nn then s.pc + 2 else s.pc) ∧ Frame s t [] [.pc]) ∧
    (∃ t, exec (.sneImm x nn) s = .next t ∧
      t.pc = (if s.reg x = nn then s.pc else s.pc + 2) ∧ Frame s t [] [.pc])

/-- 41_control_flow R135, R136, R138. -/
def Obligations.RegisterSkips : Prop :=
  ∀ (x y : Nibble) (s : State),
    (∃ t, exec (.seReg x y) s = .next t ∧
      t.pc = (if s.reg x = s.reg y then s.pc + 2 else s.pc) ∧ Frame s t [] [.pc]) ∧
    (∃ t, exec (.sneReg x y) s = .next t ∧
      t.pc = (if s.reg x = s.reg y then s.pc else s.pc + 2) ∧ Frame s t [] [.pc])

/-- 45_timers_keys R230, R231, R232: a key index of 16 or more is not held. -/
def Obligations.KeySkips : Prop :=
  ∀ (x : Nibble) (s : State),
    (∃ t, exec (.skp x) s = .next t ∧
      t.pc = (if (s.reg x).toNat < 16 ∧ s.keys.getLsbD (s.reg x).toNat = true then s.pc + 2
        else s.pc) ∧ Frame s t [] [.pc]) ∧
    (∃ t, exec (.sknp x) s = .next t ∧
      t.pc = (if (s.reg x).toNat < 16 ∧ s.keys.getLsbD (s.reg x).toNat = true then s.pc
        else s.pc + 2) ∧ Frame s t [] [.pc])

-- ==== ALU ====

/-- 42_alu R160, R162. -/
def Obligations.LoadImmediateAndCopy : Prop :=
  ∀ (x y : Nibble) (nn : Byte) (s : State),
    (∃ t, exec (.ldImm x nn) s = .next t ∧ t.reg x = nn ∧ Frame s t [x] []) ∧
    (∃ t, exec (.ldReg x y) s = .next t ∧ t.reg x = s.reg y ∧ Frame s t [x] [])

/-- 42_alu R161: the add immediate wraps and writes no flag. -/
def Obligations.AddImmediateWrapsWithoutFlag : Prop :=
  ∀ (x : Nibble) (nn : Byte) (s : State),
    ∃ t, exec (.addImm x nn) s = .next t ∧
      (t.reg x).toNat = ((s.reg x).toNat + nn.toNat) % 256 ∧ Frame s t [x] []

/-- 42_alu R163, R164, R165. -/
def Obligations.LogicOperations : Prop :=
  ∀ (x y : Nibble) (s : State),
    (∃ t, exec (.or x y) s = .next t ∧ LogicResult s t x (s.reg x ||| s.reg y)) ∧
    (∃ t, exec (.and x y) s = .next t ∧ LogicResult s t x (s.reg x &&& s.reg y)) ∧
    (∃ t, exec (.xor x y) s = .next t ∧ LogicResult s t x (s.reg x ^^^ s.reg y))

/-- 42_alu R166. -/
def Obligations.AddSetsCarry : Prop :=
  ∀ (x y : Nibble) (s : State),
    ∃ t, exec (.addReg x y) s = .next t ∧
      FlagResult s t x (((s.reg x).toNat + (s.reg y).toNat) % 256)
        (255 < (s.reg x).toNat + (s.reg y).toNat)

/-- 42_alu R167. -/
def Obligations.SubtractSetsNotBorrow : Prop :=
  ∀ (x y : Nibble) (s : State),
    ∃ t, exec (.sub x y) s = .next t ∧
      FlagResult s t x ((256 + (s.reg x).toNat - (s.reg y).toNat) % 256)
        ((s.reg y).toNat ≤ (s.reg x).toNat)

/-- 42_alu R169: "The whole rule is [from general knowledge, not in source]", the spec's own choice
(92_eei_decisions D8; log entry 12). -/
def Obligations.ReverseSubtractSetsNotBorrow : Prop :=
  ∀ (x y : Nibble) (s : State),
    ∃ t, exec (.subn x y) s = .next t ∧
      FlagResult s t x ((256 + (s.reg y).toNat - (s.reg x).toNat) % 256)
        ((s.reg x).toNat ≤ (s.reg y).toNat)

/-- 42_alu R168, R170: the source is V[y] under `shift_uses_vy`, else V[x]. -/
def Obligations.ShiftsCaptureTheShiftedOutBit : Prop :=
  ∀ (x y : Nibble) (s : State) (src : Byte),
    src = (if s.quirks.shiftUsesVy then s.reg y else s.reg x) →
    (∃ t, exec (.shr x y) s = .next t ∧ FlagResult s t x (src.toNat / 2) (src.toNat % 2 = 1)) ∧
    (∃ t, exec (.shl x y) s = .next t ∧
      FlagResult s t x (src.toNat * 2 % 256) (128 ≤ src.toNat))

/-- 42_alu R173, which the spec marks as derived from R162 to R170: the table of the 8 group with
x = y. Its 8XX7 row rests on R169, general knowledge (92_eei_decisions D8; log entry 12). -/
def Obligations.SameRegisterTable : Prop :=
  ∀ (x : Nibble) (s : State),
    (∃ t, exec (.ldReg x x) s = .next t ∧ Frame s t [] []) ∧
    (∃ t, exec (.or x x) s = .next t ∧ LogicResult s t x (s.reg x)) ∧
    (∃ t, exec (.and x x) s = .next t ∧ LogicResult s t x (s.reg x)) ∧
    (∃ t, exec (.xor x x) s = .next t ∧ LogicResult s t x 0) ∧
    (∃ t, exec (.addReg x x) s = .next t ∧
      FlagResult s t x (2 * (s.reg x).toNat % 256) ((s.reg x).getLsbD 7 = true)) ∧
    (∃ t, exec (.sub x x) s = .next t ∧ FlagResult s t x 0 True) ∧
    (∃ t, exec (.subn x x) s = .next t ∧ FlagResult s t x 0 True) ∧
    (∃ t, exec (.shr x x) s = .next t ∧
      FlagResult s t x ((s.reg x).toNat / 2) ((s.reg x).getLsbD 0 = true)) ∧
    (∃ t, exec (.shl x x) s = .next t ∧
      FlagResult s t x ((s.reg x).toNat * 2 % 256) ((s.reg x).getLsbD 7 = true))

/-- 42_alu R171: the draw is the environment's, a free value. That draws are numbered by a counter, so
that the next one is fresh, is the model's choice (log entry 1). -/
def Obligations.RandomByteUnderMask : Prop :=
  ∀ (x : Nibble) (nn : Byte) (s : State),
    ∃ t, exec (.rnd x nn) s = .next t ∧ t.reg x = Config.randByte s.drawCount &&& nn ∧
      (nn = 0 → t.reg x = 0) ∧ (nn = 0xFF → t.reg x = Config.randByte s.drawCount) ∧
      t.drawCount = s.drawCount + 1 ∧ Frame s t [x] [.draws]

/-- 10_state R22, R23: an instruction that writes VF as a flag writes 0 or 1 on every execution. The
logic group and FX1E do so under their quirk only. That 8XY7 is among them the spec takes from general
knowledge (92_eei_decisions D8; log entry 12). -/
def Obligations.FlagIsAlwaysOverwritten : Prop :=
  ∀ (x y n : Nibble) (s t : State) (i : Instr),
    i ∈ [Instr.addReg x y, .sub x y, .shr x y, .subn x y, .shl x y, .drw x y n] ∨
      (s.quirks.logicOpsResetVf = true ∧ i ∈ [Instr.or x y, .and x y, .xor x y]) ∨
      (s.quirks.fx1eSetsVf = true ∧ i = .addIVx x) →
    exec i s = .next t → s.fault = none → t.fault = none → t.reg VF = 0 ∨ t.reg VF = 1

-- ==== index and memory ====

/-- 43_index_memory R190, R192: vx is not masked to its low nibble. -/
def Obligations.LoadIndex : Prop :=
  ∀ (x : Nibble) (nnn : Addr12) (s : State),
    (∃ t, exec (.ldI nnn) s = .next t ∧ t.i.toNat = nnn.toNat ∧ Frame s t [] [.index]) ∧
    (∃ t, exec (.ldFVx x) s = .next t ∧ t.i.toNat = (s.reg x).toNat * 5 ∧ Frame s t [] [.index])

/-- 43_index_memory R191: the flag is that of the exact sum, and is written under the quirk only. -/
def Obligations.AddIndexSetsFlagUnderQuirk : Prop :=
  ∀ (x : Nibble) (s : State),
    ∃ t, exec (.addIVx x) s = .next t ∧
      t.i.toNat = (s.i.toNat + (s.reg x).toNat) % 65536 ∧
      if s.quirks.fx1eSetsVf then
        t.reg VF = (if 0x0FFF < s.i.toNat + (s.reg x).toNat then 1 else 0) ∧
          Frame s t [VF] [.index]
      else Frame s t [] [.index]

/-- 43_index_memory R193, 20_memory R62. The order of the digits, hundreds first, is what the spec takes
from general knowledge (92_eei_decisions D14; log entry 12). -/
def Obligations.BcdStoresThreeDigits : Prop :=
  ∀ (x : Nibble) (s : State), Memory.wf s.mem = true →
    (InRange s 3 →
      ∃ t, exec (.ldBVx x) s = .next t ∧
        (t.readByte s.i.toNat).toNat = (s.reg x).toNat / 100 ∧
        (t.readByte (s.i.toNat + 1)).toNat = (s.reg x).toNat / 10 % 10 ∧
        (t.readByte (s.i.toNat + 2)).toNat = (s.reg x).toNat % 10 ∧
        (∀ a, (∀ k < 3, a % 4096 ≠ (s.i.toNat + k) % 4096) → t.readByte a = s.readByte a) ∧
        Frame s t [] [.memory]) ∧
    (¬InRange s 3 →
      ∃ t, exec (.ldBVx x) s = .next t ∧
        FaultEntered s t .addressFault (encode (.ldBVx x)) (s.pc - 2))

/-- 43_index_memory R194, 20_memory R62, R63. -/
def Obligations.BlockStoreWritesRegisters : Prop :=
  ∀ (x : Nibble) (s : State), Memory.wf s.mem = true →
    (InRange s (x.toNat + 1) →
      ∃ t, exec (.ldMemVx x) s = .next t ∧
        (∀ q : Nibble, q.toNat ≤ x.toNat → t.readByte (s.i.toNat + q.toNat) = s.reg q) ∧
        (∀ a, (∀ k ≤ x.toNat, a % 4096 ≠ (s.i.toNat + k) % 4096) →
          t.readByte a = s.readByte a) ∧
        t.i.toNat = (if s.quirks.loadStoreIncrementsI then (s.i.toNat + x.toNat + 1) % 65536
          else s.i.toNat) ∧
        Frame s t [] [.memory, .index]) ∧
    (¬InRange s (x.toNat + 1) →
      ∃ t, exec (.ldMemVx x) s = .next t ∧
        FaultEntered s t .addressFault (encode (.ldMemVx x)) (s.pc - 2))

/-- 43_index_memory R195, 20_memory R62. -/
def Obligations.BlockLoadReadsMemory : Prop :=
  ∀ (x : Nibble) (s : State),
    (InRange s (x.toNat + 1) →
      ∃ t, exec (.ldVxMem x) s = .next t ∧
        (∀ q : Nibble, t.reg q =
          if q.toNat ≤ x.toNat then s.readByte (s.i.toNat + q.toNat) else s.reg q) ∧
        t.i.toNat = (if s.quirks.loadStoreIncrementsI then (s.i.toNat + x.toNat + 1) % 65536
          else s.i.toNat) ∧
        Frame s t ((List.range (x.toNat + 1)).map (BitVec.ofNat 4)) [.index]) ∧
    (¬InRange s (x.toNat + 1) →
      ∃ t, exec (.ldVxMem x) s = .next t ∧
        FaultEntered s t .addressFault (encode (.ldVxMem x)) (s.pc - 2))

/-- 43_index_memory R194, R195: what FX55 stored, FX65 loads from the same I, whatever the registers
hold in between. -/
def Obligations.BlockLoadAfterBlockStore : Prop :=
  ∀ (x : Nibble) (s t u w : State), Memory.wf s.mem = true → s.fault = none →
    exec (.ldMemVx x) s = .next t → t.fault = none →
    u.mem = t.mem → u.i = s.i → u.oobPolicy = s.oobPolicy →
    exec (.ldVxMem x) u = .next w → ∀ q : Nibble, q.toNat ≤ x.toNat → w.reg q = s.reg q

/-- 20_memory R71, 70_reset_and_hazards R301: bytes that FX55 stores where the next instruction lies are
the ones the next fetch reads; and where it overwrites its own two bytes, the step still runs it as it
was fetched, and only a later fetch there reads the new bytes. -/
def Obligations.StoredCodeIsFetched : Prop :=
  ∀ (x : Nibble) (s : State), Memory.wf s.mem = true → 1 ≤ x.toNat → InRange s (x.toNat + 1) →
    Fetches s → decode s.fetchWord = .ok (.ldMemVx x) →
    (s.i = s.pc + 2 → ∃ t, step s = .next t ∧ t.pc = s.pc + 2 ∧
      t.fetchWord = wordOfBytes (s.reg 0) (s.reg 1)) ∧
    (s.i = s.pc → ∃ t, step s = .next t ∧ t.pc = s.pc + 2 ∧
      (t.setPc s.pc).fetchWord = wordOfBytes (s.reg 0) (s.reg 1))

-- ==== display ====

/-- 44_display R210. -/
def Obligations.ClsClearsEveryPixel : Prop :=
  ∀ s : State, ∃ t, exec .cls s = .next t ∧ (∀ c r, t.pixel c r = false) ∧ Frame s t [] [.screen]

/-- 44_display R211, R213, R214, R215, and R212 for the bit order, which the spec takes from general
knowledge (92_eei_decisions D16; log entry 12): each set sprite bit that is not dropped inverts its
pixel, VF is whether one of them was set before, and the coordinates are those before VF is written. -/
def Obligations.DrawXorsTheSprite : Prop :=
  ∀ (x y n : Nibble) (s : State),
    (InRange s n.toNat →
      ∃ t, exec (.drw x y n) s = .next t ∧
        (∀ c r, (SpriteCovers s (s.reg x) (s.reg y) n.toNat c r → t.pixel c r = !s.pixel c r) ∧
          (¬SpriteCovers s (s.reg x) (s.reg y) n.toNat c r → t.pixel c r = s.pixel c r)) ∧
        ((∃ c r, SpriteCovers s (s.reg x) (s.reg y) n.toNat c r ∧ s.pixel c r = true) →
          t.reg VF = 1) ∧
        ((∀ c r, SpriteCovers s (s.reg x) (s.reg y) n.toNat c r → s.pixel c r = false) →
          t.reg VF = 0) ∧
        Frame s t [VF] [.screen]) ∧
    (¬InRange s n.toNat →
      ∃ t, exec (.drw x y n) s = .next t ∧
        FaultEntered s t .addressFault (encode (.drw x y n)) (s.pc - 2))

/-- 44_display R219, which the spec marks as derived from R214, R215 and R218: the same sprite at the same
place twice restores the screen, and the second draw reports VF = 1 exactly when the first turned a
pixel on. -/
def Obligations.DrawTwiceRestoresTheScreen : Prop :=
  ∀ (x y n : Nibble) (s t t' u : State), InRange s n.toNat →
    exec (.drw x y n) s = .next t →
    t'.pix = t.pix → t'.mem = t.mem → t'.i = t.i → t'.oobPolicy = t.oobPolicy →
    t'.quirks.wrapSprites = t.quirks.wrapSprites →
    t'.reg x = s.reg x → t'.reg y = s.reg y →
    exec (.drw x y n) t' = .next u →
    (∀ c r, u.pixel c r = s.pixel c r) ∧
    (u.reg VF = 1 ↔ ∃ c r, s.pixel c r = false ∧ t.pixel c r = true)

/-- 44_display R217. -/
def Obligations.DrawOfZeroRows : Prop :=
  ∀ (x y : Nibble) (s : State),
    ∃ t, exec (.drw x y 0) s = .next t ∧ t.reg VF = 0 ∧ Frame s t [VF] []

-- ==== timers, keys, key wait ====

/-- 45_timers_keys R233, R234, R235. Which opcode reads or writes which timer is what the spec takes from
general knowledge (92_eei_decisions D11; log entry 12). -/
def Obligations.TimerInstructions : Prop :=
  ∀ (x : Nibble) (s : State),
    (∃ t, exec (.ldVxDt x) s = .next t ∧ t.reg x = s.dt ∧ Frame s t [x] []) ∧
    (∃ t, exec (.ldDtVx x) s = .next t ∧ t.dt = s.reg x ∧ Frame s t [] [.delay]) ∧
    (∃ t, exec (.ldStVx x) s = .next t ∧ t.st = s.reg x ∧ Frame s t [] [.sound])

/-- 45_timers_keys R236: V[x] is not written by the instruction. -/
def Obligations.KeyWaitIsEntered : Prop :=
  ∀ (x : Nibble) (s : State),
    ∃ t, exec (.ldVxK x) s = .next t ∧ t.keyWaiting = true ∧ t.regWaiting = x ∧
      (s.fault = none → t.runState = .waitingForKey x) ∧ Frame s t [] [.wait]

/-- 45_timers_keys R240, R241: in any run state, never below zero. -/
def Obligations.TickCountsBothTimersDown : Prop :=
  ∀ s : State, ∃ t, transact .tickTimers s = .next (t, .done) ∧
    t.dt.toNat = s.dt.toNat - 1 ∧ t.st.toNat = s.st.toNat - 1 ∧ Frame s t [] [.delay, .sound]

/-- 45_timers_keys R245: a press never ends a wait; an index of 16 or more changes nothing. -/
def Obligations.KeyDownSetsTheKey : Prop :=
  ∀ (k : Nat) (s : State), ∃ t, transact (.keyDown k) s = .next (t, .done) ∧
    (k < 16 → (∀ j < 16, t.keys.getLsbD j = (s.keys.getLsbD j || decide (j = k))) ∧
      t.runState = s.runState ∧ Frame s t [] [.keys]) ∧
    (16 ≤ k → t = s)

/-- 45_timers_keys R246, R247: a release clears the key; while waiting it also writes the waiting
register and ends the wait, whether or not the key was held. -/
def Obligations.KeyUpReleasesAndResolves : Prop :=
  ∀ (k : Nat) (s : State), ∃ t, transact (.keyUp k) s = .next (t, .done) ∧
    (16 ≤ k → t = s) ∧
    (k < 16 → (∀ j < 16, t.keys.getLsbD j = (s.keys.getLsbD j && !decide (j = k))) ∧
      (∀ r, s.runState = .waitingForKey r →
        t.runState = .running ∧ (t.reg r).toNat = k ∧ Frame s t [r] [.keys, .wait]) ∧
      ((∀ r, s.runState ≠ .waitingForKey r) →
        t.runState = s.runState ∧ Frame s t [] [.keys]))

/-- 45_timers_keys R250, R236, R245, R247: the key-wait round trip, for every register and key. -/
def Obligations.KeyWaitRoundTrip : Prop :=
  ∀ (x : Nibble) (k : Nat) (s : State), k < 16 → Fetches s → decode s.fetchWord = .ok (.ldVxK x) →
    ∃ t, step s = .next t ∧ t.runState = .waitingForKey x ∧ step t = .next t ∧
      (t.keyDown k).runState = .waitingForKey x ∧ (∀ q, (t.keyDown k).reg q = s.reg q) ∧
      (t.keyDown k).keys.getLsbD k = true ∧
      ((t.keyDown k).keyUp k).runState = .running ∧
      (((t.keyDown k).keyUp k).reg x).toNat = k ∧
      ((t.keyDown k).keyUp k).keys.getLsbD k = false ∧
      ((t.keyDown k).keyUp k).pc = s.pc + 2

-- ==== the host's transactions ====

/-- 10_state R45, 70_reset_and_hazards R290: what init leaves in every field, for every font table and
configuration. -/
def Obligations.InitLeavesResetValues : Prop :=
  ∀ (s : State) (font : Vector Byte 80) (config : Option Quirks),
    ∃ t, transact (.init font config) s = .next (t, .done) ∧
    (∀ (a : Nat) (h : a < 80), t.readByte a = font[a]) ∧ (∀ a, 80 ≤ a → a < 4096 → t.readByte a = 0) ∧
    (∀ r, t.reg r = 0) ∧ t.i = 0 ∧ t.pc = 0x0200 ∧ t.stack = Vector.replicate 16 0 ∧ t.sp = 0 ∧
    t.dt = 0 ∧ t.st = 0 ∧ t.keys = 0 ∧ t.keyWaiting = false ∧ t.regWaiting = 0 ∧ t.fault = none ∧
    t.faultOp = 0 ∧ t.faultPc = 0 ∧ (∀ c r, t.pixel c r = false) ∧ t.clockspeed = 600 ∧
    t.quirks = config.getD ⟨false, false, false, false, true⟩

/-- 10_state R45, R46: every field of the model's reset state has the spec's reset value, with the default
quirks and the 80 bytes of 20_memory R66, which the spec takes from general knowledge (log entry 9); and
the state is well formed. That `OOB_POLICY` is `wrap` there is the model's choice (log entry 2). -/
def Obligations.ResetStateIsTheSpecs : Prop :=
  State.reset.wellFormed = true ∧ State.reset.runState = .running ∧
  (List.range 80).map State.reset.readByte =
    [0xF0, 0x90, 0x90, 0x90, 0xF0, 0x20, 0x60, 0x20, 0x20, 0x70] ++
    [0xF0, 0x10, 0xF0, 0x80, 0xF0, 0xF0, 0x10, 0xF0, 0x10, 0xF0] ++
    [0x90, 0x90, 0xF0, 0x10, 0x10, 0xF0, 0x80, 0xF0, 0x10, 0xF0] ++
    [0xF0, 0x80, 0xF0, 0x90, 0xF0, 0xF0, 0x10, 0x20, 0x40, 0x40] ++
    [0xF0, 0x90, 0xF0, 0x90, 0xF0, 0xF0, 0x90, 0xF0, 0x10, 0xF0] ++
    [0xF0, 0x90, 0xF0, 0x90, 0x90, 0xE0, 0x90, 0xE0, 0x90, 0xE0] ++
    [0xF0, 0x80, 0x80, 0x80, 0xF0, 0xE0, 0x90, 0x90, 0x90, 0xE0] ++
    [0xF0, 0x80, 0xF0, 0x80, 0xF0, 0xF0, 0x80, 0xF0, 0x80, 0x80] ∧
  (∀ a, 80 ≤ a → a < 4096 → State.reset.readByte a = 0) ∧
  (∀ r, State.reset.reg r = 0) ∧ State.reset.i = 0 ∧ State.reset.pc = 0x0200 ∧
  State.reset.stack = Vector.replicate 16 0 ∧ State.reset.sp = 0 ∧
  State.reset.dt = 0 ∧ State.reset.st = 0 ∧ State.reset.keys = 0 ∧
  State.reset.keyWaiting = false ∧ State.reset.regWaiting = 0 ∧ State.reset.fault = none ∧
  State.reset.faultOp = 0 ∧ State.reset.faultPc = 0 ∧
  (∀ c r, State.reset.pixel c r = false) ∧ State.reset.clockspeed = 600 ∧
  State.reset.quirks = ⟨false, false, false, false, true⟩ ∧ State.reset.oobPolicy = .wrap

/-- 70_reset_and_hazards R292, R293. -/
def Obligations.LoadRomWritesOrRejects : Prop :=
  ∀ (bytes : List Byte) (s : State), Memory.wf s.mem = true →
    (bytes.length ≤ 3584 → ∃ t, transact (.loadRom bytes) s = .next (t, .done) ∧
      (∀ (k : Nat) (h : k < bytes.length), t.readByte (0x200 + k) = bytes[k]) ∧
      (∀ a < 4096, (a < 0x200 ∨ 0x200 + bytes.length ≤ a) → t.readByte a = s.readByte a) ∧
      Frame s t [] [.memory]) ∧
    (3584 < bytes.length → transact (.loadRom bytes) s = .next (s, .rejected))

/-- 70_reset_and_hazards R296, R297, R298. The parameter `OOB_POLICY` and the draw counter, which are no
fields of 10_state R20, stay the machine's own (log entry 3, the model's choice). -/
def Obligations.SaveAndRestore : Prop :=
  ∀ s u : State,
    transact .save s = .next (s, .snapshot s) ∧
    (s.wellFormed = true → transact (.restore s) s = .next (s, .done)) ∧
    (({ u with oobPolicy := s.oobPolicy } : State).wellFormed = false →
      transact (.restore u) s = .next (s, .rejected)) ∧
    (({ u with oobPolicy := s.oobPolicy } : State).wellFormed = true →
      transact (.restore u) s =
        .next ({ u with oobPolicy := s.oobPolicy, drawCount := s.drawCount }, .done))

/-- 60_exceptions R279, R280. -/
def Obligations.HostSetsQuirksAndClockspeed : Prop :=
  ∀ (q : Quirks) (hz : Nat) (s : State),
    transact (.setQuirks q) s = .next ({ s with quirks := q }, .done) ∧
    (1 ≤ hz → transact (.setClockspeed hz) s = .next ({ s with clockspeed := hz }, .done)) ∧
    transact (.setClockspeed 0) s = .next (s, .rejected)

/-- 44_display R220, 45_timers_keys R242. -/
def Obligations.ObservablesReadTheState : Prop :=
  ∀ s : State,
    (∀ (c : Fin 64) (r : Fin 32), s.readPixel c.val r.val = some (s.pixel c r)) ∧
    (∀ c r : Nat, 64 ≤ c ∨ 32 ≤ r → s.readPixel c r = none) ∧
    (s.soundActive = true ↔ s.st ≠ 0)

-- ==== whole-machine rules ====

/-- 40_execution_cycle R117, 10_state R46: from every well-formed state a step answers a next state,
and it is well formed. -/
def Obligations.StepKeepsWellFormedness : Prop := ∀ s : State, s.wellFormed = true → StepSafe s

/-- 10_state R46: every transaction maps a well-formed state to a well-formed state. -/
def Obligations.TransactionsKeepWellFormedness : Prop :=
  ∀ (tr : Transaction) (s : State), s.wellFormed = true →
    ∃ t r, transact tr s = .next (t, r) ∧ t.wellFormed = true

/-- 60_exceptions R265, R266, R289: a fault is left only by init or restore, and a wait only by those
and a key_up of a key below 16. -/
def Obligations.StopStatesAreSticky : Prop :=
  ∀ (tr : Transaction) (s : State), tr.replacesState = false →
    (∀ c, s.runState = .faulted c →
      ∃ t r, transact tr s = .next (t, r) ∧ t.runState = .faulted c ∧
        t.faultOp = s.faultOp ∧ t.faultPc = s.faultPc) ∧
    (∀ r, s.runState = .waitingForKey r → tr.endsWait = false →
      ∃ t a, transact tr s = .next (t, a) ∧ t.runState = .waitingForKey r)

/-- 60_exceptions R268: which instruction can raise which cause, and AddressFault only under
`OOB_POLICY` = `fault`. -/
def Obligations.EachCauseHasItsInstructions : Prop :=
  ∀ (i : Instr) (s t : State) (c : FaultCause), s.fault = none → exec i s = .next t →
    t.fault = some c →
    (c = .stackOverflow → ∃ nnn, i = .call nnn) ∧ (c = .stackUnderflow → i = .ret) ∧
    (c = .addressFault → s.oobPolicy = .fault ∧ dataBytes i ≠ 0 ∧ 4096 < s.i.toNat + dataBytes i)

/-- 10_state R28 to R36, R41, 20_memory R60, 44_display R221, 60_exceptions R268: which instructions write
what, over all instructions and whatever they answer. PC and the general registers have statements of
their own (`StepMovesPc`, `EachRegisterHasItsWriters`). The draw counter is the model's (log entry 1);
which timer FX15 and FX18 write, the spec takes from general knowledge (log entry 12). -/
def Obligations.EachPartHasItsWriters : Prop :=
  ∀ (i : Instr) (s t : State), exec i s = .next t →
    (t.keys = s.keys ∧ t.quirks = s.quirks ∧ t.clockspeed = s.clockspeed ∧
      t.oobPolicy = s.oobPolicy) ∧
    (t.mem = s.mem ∨ (∃ x, i = .ldBVx x) ∨ ∃ x, i = .ldMemVx x) ∧
    (t.i = s.i ∨ (∃ nnn, i = .ldI nnn) ∨ (∃ x, i = .addIVx x) ∨ (∃ x, i = .ldFVx x) ∨
      (s.quirks.loadStoreIncrementsI = true ∧ ∃ x, i = .ldMemVx x ∨ i = .ldVxMem x)) ∧
    (t.stack = s.stack ∨ ∃ nnn, i = .call nnn) ∧
    (t.sp = s.sp ∨ i = .ret ∨ ∃ nnn, i = .call nnn) ∧
    (t.dt = s.dt ∨ ∃ x, i = .ldDtVx x) ∧ (t.st = s.st ∨ ∃ x, i = .ldStVx x) ∧
    (t.pix = s.pix ∨ i = .cls ∨ ∃ x y n, i = .drw x y n) ∧
    ((t.keyWaiting = s.keyWaiting ∧ t.regWaiting = s.regWaiting) ∨
      ∃ x, i = .ldVxK x ∧ t.keyWaiting = true ∧ t.regWaiting = x) ∧
    ((t.fault = s.fault ∧ t.faultOp = s.faultOp ∧ t.faultPc = s.faultPc) ∨ i = .ret ∨
      (∃ nnn, i = .call nnn) ∨ (s.oobPolicy = .fault ∧ dataBytes i ≠ 0)) ∧
    (t.drawCount = s.drawCount ∨ ∃ x nn, i = .rnd x nn)

/-- 10_state R26: how PC changes in one step, over all states and words. -/
def Obligations.StepMovesPc : Prop :=
  ∀ s t : State, step s = .next t →
    if s.runState ≠ .running ∨ t.fault ≠ none then t.pc = s.pc
    else match decode s.fetchWord with
      | .ok i => PcAfter s t.pc i
      | .error _ => t.pc = s.pc + 2

/-- 10_state R23, R24: a general register changes only by an instruction that writes it. That 8XY7 and
FX07 write V[x] the spec takes from general knowledge (92_eei_decisions D8, D11; log entry 12). -/
def Obligations.EachRegisterHasItsWriters : Prop :=
  ∀ (i : Instr) (s t : State) (q : Nibble), exec i s = .next t → t.reg q ≠ s.reg q → Writes s q i

/-- 40_execution_cycle R118, 10_state R36: a body depends on the free draws only if it is CXNN, and no
body, CXNN included, depends on the clockspeed: run from a state that differs in what it does not depend
on, it answers the same but for that. The draws are numbered by the model's counter (log entry 1). -/
def Obligations.DrawsAndClockspeedDoNotInfluence : Prop :=
  (∀ (i : Instr) (s t : State) (k hz : Nat), (∀ x nn, i ≠ .rnd x nn) → exec i s = .next t →
    exec i { s with drawCount := k, clockspeed := hz } =
      .next { t with drawCount := k, clockspeed := hz }) ∧
  ∀ (i : Instr) (s t : State) (hz : Nat), exec i s = .next t →
    exec i { s with clockspeed := hz } = .next { t with clockspeed := hz }

/-- 10_state R20: states that read alike are equal, so a state's data has one form. -/
def Obligations.StatesThatReadAlikeAreEqual : Prop :=
  ∀ s t : State, Memory.wf s.mem = true → Memory.wf t.mem = true → Frame s t [] [] → s = t
end

