-- ==== Sys2Proof/Laws/Decode.lean ====
section
/-! SUPPORT. The fields of an encoded word, and a word rebuilt from its fields. -/

namespace Sys2Proof

theorem append_toNat {m k : Nat} (a : BitVec m) (b : BitVec k) :
    (a ++ b).toNat = a.toNat * 2 ^ k + b.toNat := by
  rw [BitVec.toNat_append, ← Nat.shiftLeft_add_eq_or_of_lt b.isLt, Nat.shiftLeft_eq]

theorem wordXYN_toNat (o x y n : Nibble) :
    (wordXYN o x y n).toNat = o.toNat * 4096 + x.toNat * 256 + y.toNat * 16 + n.toNat := by
  have h : (wordXYN o x y n).toNat =
      ((o.toNat * 2 ^ 4 + x.toNat) * 2 ^ 4 + y.toNat) * 2 ^ 4 + n.toNat := by
    rw [← append_toNat, ← append_toNat, ← append_toNat, wordXYN]
  rw [h]; ring

theorem wordXB_toNat (o x : Nibble) (nn : Byte) :
    (wordXB o x nn).toNat = o.toNat * 4096 + x.toNat * 256 + nn.toNat := by
  have h : (wordXB o x nn).toNat = (o.toNat * 2 ^ 4 + x.toNat) * 2 ^ 8 + nn.toNat := by
    rw [← append_toNat, ← append_toNat, wordXB]
  rw [h]; ring

theorem wordA_toNat (o : Nibble) (nnn : Addr12) :
    (wordA o nnn).toNat = o.toNat * 4096 + nnn.toNat := append_toNat o nnn

theorem wordOfBytes_toNat (hi lo : Byte) :
    (wordOfBytes hi lo).toNat = hi.toNat * 256 + lo.toNat := append_toNat hi lo

theorem fieldO_toNat (w : Word) : (fieldO w).toNat = w.toNat / 4096 := by
  have := w.isLt
  simp [fieldO, BitVec.extractLsb'_toNat, Nat.shiftRight_eq_div_pow]; omega
theorem fieldX_toNat (w : Word) : (fieldX w).toNat = w.toNat / 256 % 16 := by
  simp [fieldX, BitVec.extractLsb'_toNat, Nat.shiftRight_eq_div_pow]
theorem fieldY_toNat (w : Word) : (fieldY w).toNat = w.toNat / 16 % 16 := by
  simp [fieldY, BitVec.extractLsb'_toNat, Nat.shiftRight_eq_div_pow]
theorem fieldN_toNat (w : Word) : (fieldN w).toNat = w.toNat % 16 := by
  simp [fieldN, BitVec.extractLsb'_toNat]
theorem fieldNN_toNat (w : Word) : (fieldNN w).toNat = w.toNat % 256 := by
  simp [fieldNN, BitVec.extractLsb'_toNat]
theorem fieldNNN_toNat (w : Word) : (fieldNNN w).toNat = w.toNat % 4096 := by
  simp [fieldNNN, BitVec.extractLsb'_toNat]
theorem highByte_toNat (w : Word) : (highByte w).toNat = w.toNat / 256 := by
  have := w.isLt
  simp [highByte, BitVec.extractLsb'_toNat, Nat.shiftRight_eq_div_pow]; omega
theorem lowByte_toNat (w : Word) : (lowByte w).toNat = w.toNat % 256 := by
  simp [lowByte, BitVec.extractLsb'_toNat]

section
variable (o x y n : Nibble) (nn : Byte) (nnn : Addr12) (w : Word)

@[simp] theorem fieldO_wordXYN : fieldO (wordXYN o x y n) = o :=
  BitVec.eq_of_toNat_eq (by rw [fieldO_toNat, wordXYN_toNat]; omega)
@[simp] theorem fieldX_wordXYN : fieldX (wordXYN o x y n) = x :=
  BitVec.eq_of_toNat_eq (by rw [fieldX_toNat, wordXYN_toNat]; omega)
@[simp] theorem fieldY_wordXYN : fieldY (wordXYN o x y n) = y :=
  BitVec.eq_of_toNat_eq (by rw [fieldY_toNat, wordXYN_toNat]; omega)
@[simp] theorem fieldN_wordXYN : fieldN (wordXYN o x y n) = n :=
  BitVec.eq_of_toNat_eq (by rw [fieldN_toNat, wordXYN_toNat]; omega)
@[simp] theorem fieldO_wordXB : fieldO (wordXB o x nn) = o :=
  BitVec.eq_of_toNat_eq (by rw [fieldO_toNat, wordXB_toNat]; omega)
@[simp] theorem fieldX_wordXB : fieldX (wordXB o x nn) = x :=
  BitVec.eq_of_toNat_eq (by rw [fieldX_toNat, wordXB_toNat]; omega)
@[simp] theorem fieldNN_wordXB : fieldNN (wordXB o x nn) = nn :=
  BitVec.eq_of_toNat_eq (by rw [fieldNN_toNat, wordXB_toNat]; omega)
@[simp] theorem fieldO_wordA : fieldO (wordA o nnn) = o :=
  BitVec.eq_of_toNat_eq (by rw [fieldO_toNat, wordA_toNat]; omega)
@[simp] theorem fieldNNN_wordA : fieldNNN (wordA o nnn) = nnn :=
  BitVec.eq_of_toNat_eq (by rw [fieldNNN_toNat, wordA_toNat]; omega)

theorem wordXYN_fields : wordXYN (fieldO w) (fieldX w) (fieldY w) (fieldN w) = w :=
  BitVec.eq_of_toNat_eq (by
    rw [wordXYN_toNat, fieldO_toNat, fieldX_toNat, fieldY_toNat, fieldN_toNat]; omega)
theorem wordXB_fields : wordXB (fieldO w) (fieldX w) (fieldNN w) = w :=
  BitVec.eq_of_toNat_eq (by rw [wordXB_toNat, fieldO_toNat, fieldX_toNat, fieldNN_toNat]; omega)
theorem wordA_fields : wordA (fieldO w) (fieldNNN w) = w :=
  BitVec.eq_of_toNat_eq (by rw [wordA_toNat, fieldO_toNat, fieldNNN_toNat]; omega)

/-- The two bytes of a word, put together again, are the word (20_memory R61). -/
@[simp] theorem wordOfBytes_high_low : wordOfBytes (highByte w) (lowByte w) = w :=
  BitVec.eq_of_toNat_eq (by rw [wordOfBytes_toNat, highByte_toNat, lowByte_toNat]; omega)
@[simp] theorem highByte_wordOfBytes (hi lo : Byte) : highByte (wordOfBytes hi lo) = hi :=
  BitVec.eq_of_toNat_eq (by rw [highByte_toNat, wordOfBytes_toNat]; omega)
@[simp] theorem lowByte_wordOfBytes (hi lo : Byte) : lowByte (wordOfBytes hi lo) = lo :=
  BitVec.eq_of_toNat_eq (by rw [lowByte_toNat, wordOfBytes_toNat]; omega)

end

/-! The masks of the opcode table (30_encoding R86) as the fields they keep. -/

theorem wordXYN_and (o x y n o' x' y' n' : Nibble) :
    wordXYN o x y n &&& wordXYN o' x' y' n' =
      wordXYN (o &&& o') (x &&& x') (y &&& y') (n &&& n') := by
  simp only [wordXYN]
  rw [BitVec.and_append, BitVec.and_append, BitVec.and_append]

theorem nibble_and_F (a : Nibble) : a &&& 0xF#4 = a := by revert a; decide

theorem nibble_and_0 (a : Nibble) : a &&& 0x0#4 = 0x0#4 := by revert a; decide

theorem mask_F000 (w : Word) : w &&& 0xF000#16 = wordXYN (fieldO w) 0#4 0#4 0#4 := by
  conv_lhs => rw [← wordXYN_fields w, show (0xF000#16) = wordXYN 0xF#4 0x0#4 0x0#4 0x0#4 from rfl]
  rw [wordXYN_and, nibble_and_F, nibble_and_0, nibble_and_0, nibble_and_0]

theorem mask_F00F (w : Word) : w &&& 0xF00F#16 = wordXYN (fieldO w) 0#4 0#4 (fieldN w) := by
  conv_lhs => rw [← wordXYN_fields w, show (0xF00F#16) = wordXYN 0xF#4 0x0#4 0x0#4 0xF#4 from rfl]
  rw [wordXYN_and, nibble_and_F, nibble_and_0, nibble_and_0, nibble_and_F]

theorem mask_F0FF (w : Word) : w &&& 0xF0FF#16 = wordXB (fieldO w) 0#4 (fieldNN w) := by
  have h : wordXYN (fieldO w) 0#4 (fieldY w) (fieldN w) = wordXB (fieldO w) 0#4 (fieldNN w) :=
    BitVec.eq_of_toNat_eq (by
      rw [wordXYN_toNat, wordXB_toNat, fieldY_toNat, fieldN_toNat, fieldNN_toNat]; omega)
  conv_lhs => rw [← wordXYN_fields w, show (0xF0FF#16) = wordXYN 0xF#4 0x0#4 0xF#4 0xF#4 from rfl]
  rw [wordXYN_and, nibble_and_F, nibble_and_0, nibble_and_F, nibble_and_F, h]

theorem mask_FFFF (w : Word) : w &&& 0xFFFF#16 = w := BitVec.and_allOnes

/-- The check of 30_encoding R95 in terms of the decoder's fields. -/
theorem wellFormedWord_eq (w : Word) :
    wellFormedWord w = match fieldO w with
      | 0x0#4 => w == 0x00E0#16 || w == 0x00EE#16
      | 0x5#4 => fieldN w == 0#4
      | 0x8#4 => !([0x8#4, 0x9#4, 0xA#4, 0xB#4, 0xC#4, 0xD#4, 0xF#4].contains (fieldN w))
      | 0x9#4 => fieldN w == 0#4
      | 0xE#4 => [0x9E#8, 0xA1#8].contains (fieldNN w)
      | 0xF#4 =>
        [0x07#8, 0x0A#8, 0x15#8, 0x18#8, 0x1E#8, 0x29#8, 0x33#8, 0x55#8, 0x65#8].contains (fieldNN w)
      | _ => true := rfl

/-- Decoding the two bytes of a word is decoding the word (30_encoding R80, 20_memory R61). -/
theorem decodeTableWord_eq (w : Word) :
    decodeTableWord 16 w.toNat = (decode w).toOption := by
  have h : BitVec.ofNat 16 (w.toNat % 2 ^ 16) = w := by
    apply BitVec.eq_of_toNat_eq
    rw [BitVec.toNat_ofNat, Nat.mod_mod]
    exact Nat.mod_eq_of_lt w.isLt
  simp only [decodeTableWord, decodeBytes, h, wordOfBytes_high_low]
  cases decode w <;> rfl

end Sys2Proof
end

