-- ==== Sys2Proof/Laws/State.lean ====
section
/-! SUPPORT. What each named update of the state leaves in each field: one lemma per field per update. -/

namespace Sys2Proof.Machine

section
variable (s : State)

@[simp] theorem State.setReg_mem (r : Nibble) (b : Byte) : (s.setReg r b).mem = s.mem := rfl
@[simp] theorem State.setReg_v (r : Nibble) (b : Byte) :
    (s.setReg r b).v = s.v.set r.toNat b r.isLt := rfl
@[simp] theorem State.setReg_i (r : Nibble) (b : Byte) : (s.setReg r b).i = s.i := rfl
@[simp] theorem State.setReg_pc (r : Nibble) (b : Byte) : (s.setReg r b).pc = s.pc := rfl
@[simp] theorem State.setReg_stack (r : Nibble) (b : Byte) : (s.setReg r b).stack = s.stack := rfl
@[simp] theorem State.setReg_sp (r : Nibble) (b : Byte) : (s.setReg r b).sp = s.sp := rfl
@[simp] theorem State.setReg_dt (r : Nibble) (b : Byte) : (s.setReg r b).dt = s.dt := rfl
@[simp] theorem State.setReg_st (r : Nibble) (b : Byte) : (s.setReg r b).st = s.st := rfl
@[simp] theorem State.setReg_keys (r : Nibble) (b : Byte) : (s.setReg r b).keys = s.keys := rfl
@[simp] theorem State.setReg_keyWaiting (r : Nibble) (b : Byte) :
    (s.setReg r b).keyWaiting = s.keyWaiting := rfl
@[simp] theorem State.setReg_regWaiting (r : Nibble) (b : Byte) :
    (s.setReg r b).regWaiting = s.regWaiting := rfl
@[simp] theorem State.setReg_fault (r : Nibble) (b : Byte) : (s.setReg r b).fault = s.fault := rfl
@[simp] theorem State.setReg_faultOp (r : Nibble) (b : Byte) :
    (s.setReg r b).faultOp = s.faultOp := rfl
@[simp] theorem State.setReg_faultPc (r : Nibble) (b : Byte) :
    (s.setReg r b).faultPc = s.faultPc := rfl
@[simp] theorem State.setReg_pix (r : Nibble) (b : Byte) : (s.setReg r b).pix = s.pix := rfl
@[simp] theorem State.setReg_clockspeed (r : Nibble) (b : Byte) :
    (s.setReg r b).clockspeed = s.clockspeed := rfl
@[simp] theorem State.setReg_quirks (r : Nibble) (b : Byte) :
    (s.setReg r b).quirks = s.quirks := rfl
@[simp] theorem State.setReg_oobPolicy (r : Nibble) (b : Byte) :
    (s.setReg r b).oobPolicy = s.oobPolicy := rfl
@[simp] theorem State.setReg_drawCount (r : Nibble) (b : Byte) :
    (s.setReg r b).drawCount = s.drawCount := rfl

@[simp] theorem State.setPc_mem (a : Word) : (s.setPc a).mem = s.mem := rfl
@[simp] theorem State.setPc_v (a : Word) : (s.setPc a).v = s.v := rfl
@[simp] theorem State.setPc_i (a : Word) : (s.setPc a).i = s.i := rfl
@[simp] theorem State.setPc_pc (a : Word) : (s.setPc a).pc = a := rfl
@[simp] theorem State.setPc_stack (a : Word) : (s.setPc a).stack = s.stack := rfl
@[simp] theorem State.setPc_sp (a : Word) : (s.setPc a).sp = s.sp := rfl
@[simp] theorem State.setPc_dt (a : Word) : (s.setPc a).dt = s.dt := rfl
@[simp] theorem State.setPc_st (a : Word) : (s.setPc a).st = s.st := rfl
@[simp] theorem State.setPc_keys (a : Word) : (s.setPc a).keys = s.keys := rfl
@[simp] theorem State.setPc_keyWaiting (a : Word) : (s.setPc a).keyWaiting = s.keyWaiting := rfl
@[simp] theorem State.setPc_regWaiting (a : Word) : (s.setPc a).regWaiting = s.regWaiting := rfl
@[simp] theorem State.setPc_fault (a : Word) : (s.setPc a).fault = s.fault := rfl
@[simp] theorem State.setPc_faultOp (a : Word) : (s.setPc a).faultOp = s.faultOp := rfl
@[simp] theorem State.setPc_faultPc (a : Word) : (s.setPc a).faultPc = s.faultPc := rfl
@[simp] theorem State.setPc_pix (a : Word) : (s.setPc a).pix = s.pix := rfl
@[simp] theorem State.setPc_clockspeed (a : Word) : (s.setPc a).clockspeed = s.clockspeed := rfl
@[simp] theorem State.setPc_quirks (a : Word) : (s.setPc a).quirks = s.quirks := rfl
@[simp] theorem State.setPc_oobPolicy (a : Word) : (s.setPc a).oobPolicy = s.oobPolicy := rfl
@[simp] theorem State.setPc_drawCount (a : Word) : (s.setPc a).drawCount = s.drawCount := rfl

@[simp] theorem State.setI_mem (a : Word) : (s.setI a).mem = s.mem := rfl
@[simp] theorem State.setI_v (a : Word) : (s.setI a).v = s.v := rfl
@[simp] theorem State.setI_i (a : Word) : (s.setI a).i = a := rfl
@[simp] theorem State.setI_pc (a : Word) : (s.setI a).pc = s.pc := rfl
@[simp] theorem State.setI_stack (a : Word) : (s.setI a).stack = s.stack := rfl
@[simp] theorem State.setI_sp (a : Word) : (s.setI a).sp = s.sp := rfl
@[simp] theorem State.setI_dt (a : Word) : (s.setI a).dt = s.dt := rfl
@[simp] theorem State.setI_st (a : Word) : (s.setI a).st = s.st := rfl
@[simp] theorem State.setI_keys (a : Word) : (s.setI a).keys = s.keys := rfl
@[simp] theorem State.setI_keyWaiting (a : Word) : (s.setI a).keyWaiting = s.keyWaiting := rfl
@[simp] theorem State.setI_regWaiting (a : Word) : (s.setI a).regWaiting = s.regWaiting := rfl
@[simp] theorem State.setI_fault (a : Word) : (s.setI a).fault = s.fault := rfl
@[simp] theorem State.setI_faultOp (a : Word) : (s.setI a).faultOp = s.faultOp := rfl
@[simp] theorem State.setI_faultPc (a : Word) : (s.setI a).faultPc = s.faultPc := rfl
@[simp] theorem State.setI_pix (a : Word) : (s.setI a).pix = s.pix := rfl
@[simp] theorem State.setI_clockspeed (a : Word) : (s.setI a).clockspeed = s.clockspeed := rfl
@[simp] theorem State.setI_quirks (a : Word) : (s.setI a).quirks = s.quirks := rfl
@[simp] theorem State.setI_oobPolicy (a : Word) : (s.setI a).oobPolicy = s.oobPolicy := rfl
@[simp] theorem State.setI_drawCount (a : Word) : (s.setI a).drawCount = s.drawCount := rfl

@[simp] theorem State.setDt_mem (b : Byte) : (s.setDt b).mem = s.mem := rfl
@[simp] theorem State.setDt_v (b : Byte) : (s.setDt b).v = s.v := rfl
@[simp] theorem State.setDt_i (b : Byte) : (s.setDt b).i = s.i := rfl
@[simp] theorem State.setDt_pc (b : Byte) : (s.setDt b).pc = s.pc := rfl
@[simp] theorem State.setDt_stack (b : Byte) : (s.setDt b).stack = s.stack := rfl
@[simp] theorem State.setDt_sp (b : Byte) : (s.setDt b).sp = s.sp := rfl
@[simp] theorem State.setDt_dt (b : Byte) : (s.setDt b).dt = b := rfl
@[simp] theorem State.setDt_st (b : Byte) : (s.setDt b).st = s.st := rfl
@[simp] theorem State.setDt_keys (b : Byte) : (s.setDt b).keys = s.keys := rfl
@[simp] theorem State.setDt_keyWaiting (b : Byte) : (s.setDt b).keyWaiting = s.keyWaiting := rfl
@[simp] theorem State.setDt_regWaiting (b : Byte) : (s.setDt b).regWaiting = s.regWaiting := rfl
@[simp] theorem State.setDt_fault (b : Byte) : (s.setDt b).fault = s.fault := rfl
@[simp] theorem State.setDt_faultOp (b : Byte) : (s.setDt b).faultOp = s.faultOp := rfl
@[simp] theorem State.setDt_faultPc (b : Byte) : (s.setDt b).faultPc = s.faultPc := rfl
@[simp] theorem State.setDt_pix (b : Byte) : (s.setDt b).pix = s.pix := rfl
@[simp] theorem State.setDt_clockspeed (b : Byte) : (s.setDt b).clockspeed = s.clockspeed := rfl
@[simp] theorem State.setDt_quirks (b : Byte) : (s.setDt b).quirks = s.quirks := rfl
@[simp] theorem State.setDt_oobPolicy (b : Byte) : (s.setDt b).oobPolicy = s.oobPolicy := rfl
@[simp] theorem State.setDt_drawCount (b : Byte) : (s.setDt b).drawCount = s.drawCount := rfl

@[simp] theorem State.setSt_mem (b : Byte) : (s.setSt b).mem = s.mem := rfl
@[simp] theorem State.setSt_v (b : Byte) : (s.setSt b).v = s.v := rfl
@[simp] theorem State.setSt_i (b : Byte) : (s.setSt b).i = s.i := rfl
@[simp] theorem State.setSt_pc (b : Byte) : (s.setSt b).pc = s.pc := rfl
@[simp] theorem State.setSt_stack (b : Byte) : (s.setSt b).stack = s.stack := rfl
@[simp] theorem State.setSt_sp (b : Byte) : (s.setSt b).sp = s.sp := rfl
@[simp] theorem State.setSt_dt (b : Byte) : (s.setSt b).dt = s.dt := rfl
@[simp] theorem State.setSt_st (b : Byte) : (s.setSt b).st = b := rfl
@[simp] theorem State.setSt_keys (b : Byte) : (s.setSt b).keys = s.keys := rfl
@[simp] theorem State.setSt_keyWaiting (b : Byte) : (s.setSt b).keyWaiting = s.keyWaiting := rfl
@[simp] theorem State.setSt_regWaiting (b : Byte) : (s.setSt b).regWaiting = s.regWaiting := rfl
@[simp] theorem State.setSt_fault (b : Byte) : (s.setSt b).fault = s.fault := rfl
@[simp] theorem State.setSt_faultOp (b : Byte) : (s.setSt b).faultOp = s.faultOp := rfl
@[simp] theorem State.setSt_faultPc (b : Byte) : (s.setSt b).faultPc = s.faultPc := rfl
@[simp] theorem State.setSt_pix (b : Byte) : (s.setSt b).pix = s.pix := rfl
@[simp] theorem State.setSt_clockspeed (b : Byte) : (s.setSt b).clockspeed = s.clockspeed := rfl
@[simp] theorem State.setSt_quirks (b : Byte) : (s.setSt b).quirks = s.quirks := rfl
@[simp] theorem State.setSt_oobPolicy (b : Byte) : (s.setSt b).oobPolicy = s.oobPolicy := rfl
@[simp] theorem State.setSt_drawCount (b : Byte) : (s.setSt b).drawCount = s.drawCount := rfl

@[simp] theorem State.setKeys_mem (k : Word) : (s.setKeys k).mem = s.mem := rfl
@[simp] theorem State.setKeys_v (k : Word) : (s.setKeys k).v = s.v := rfl
@[simp] theorem State.setKeys_i (k : Word) : (s.setKeys k).i = s.i := rfl
@[simp] theorem State.setKeys_pc (k : Word) : (s.setKeys k).pc = s.pc := rfl
@[simp] theorem State.setKeys_stack (k : Word) : (s.setKeys k).stack = s.stack := rfl
@[simp] theorem State.setKeys_sp (k : Word) : (s.setKeys k).sp = s.sp := rfl
@[simp] theorem State.setKeys_dt (k : Word) : (s.setKeys k).dt = s.dt := rfl
@[simp] theorem State.setKeys_st (k : Word) : (s.setKeys k).st = s.st := rfl
@[simp] theorem State.setKeys_keys (k : Word) : (s.setKeys k).keys = k := rfl
@[simp] theorem State.setKeys_keyWaiting (k : Word) :
    (s.setKeys k).keyWaiting = s.keyWaiting := rfl
@[simp] theorem State.setKeys_regWaiting (k : Word) :
    (s.setKeys k).regWaiting = s.regWaiting := rfl
@[simp] theorem State.setKeys_fault (k : Word) : (s.setKeys k).fault = s.fault := rfl
@[simp] theorem State.setKeys_faultOp (k : Word) : (s.setKeys k).faultOp = s.faultOp := rfl
@[simp] theorem State.setKeys_faultPc (k : Word) : (s.setKeys k).faultPc = s.faultPc := rfl
@[simp] theorem State.setKeys_pix (k : Word) : (s.setKeys k).pix = s.pix := rfl
@[simp] theorem State.setKeys_clockspeed (k : Word) :
    (s.setKeys k).clockspeed = s.clockspeed := rfl
@[simp] theorem State.setKeys_quirks (k : Word) : (s.setKeys k).quirks = s.quirks := rfl
@[simp] theorem State.setKeys_oobPolicy (k : Word) : (s.setKeys k).oobPolicy = s.oobPolicy := rfl
@[simp] theorem State.setKeys_drawCount (k : Word) : (s.setKeys k).drawCount = s.drawCount := rfl

@[simp] theorem State.startWait_mem (r : Nibble) : (s.startWait r).mem = s.mem := rfl
@[simp] theorem State.startWait_v (r : Nibble) : (s.startWait r).v = s.v := rfl
@[simp] theorem State.startWait_i (r : Nibble) : (s.startWait r).i = s.i := rfl
@[simp] theorem State.startWait_pc (r : Nibble) : (s.startWait r).pc = s.pc := rfl
@[simp] theorem State.startWait_stack (r : Nibble) : (s.startWait r).stack = s.stack := rfl
@[simp] theorem State.startWait_sp (r : Nibble) : (s.startWait r).sp = s.sp := rfl
@[simp] theorem State.startWait_dt (r : Nibble) : (s.startWait r).dt = s.dt := rfl
@[simp] theorem State.startWait_st (r : Nibble) : (s.startWait r).st = s.st := rfl
@[simp] theorem State.startWait_keys (r : Nibble) : (s.startWait r).keys = s.keys := rfl
@[simp] theorem State.startWait_keyWaiting (r : Nibble) : (s.startWait r).keyWaiting = true := rfl
@[simp] theorem State.startWait_regWaiting (r : Nibble) : (s.startWait r).regWaiting = r := rfl
@[simp] theorem State.startWait_fault (r : Nibble) : (s.startWait r).fault = s.fault := rfl
@[simp] theorem State.startWait_faultOp (r : Nibble) : (s.startWait r).faultOp = s.faultOp := rfl
@[simp] theorem State.startWait_faultPc (r : Nibble) : (s.startWait r).faultPc = s.faultPc := rfl
@[simp] theorem State.startWait_pix (r : Nibble) : (s.startWait r).pix = s.pix := rfl
@[simp] theorem State.startWait_clockspeed (r : Nibble) :
    (s.startWait r).clockspeed = s.clockspeed := rfl
@[simp] theorem State.startWait_quirks (r : Nibble) : (s.startWait r).quirks = s.quirks := rfl
@[simp] theorem State.startWait_oobPolicy (r : Nibble) :
    (s.startWait r).oobPolicy = s.oobPolicy := rfl
@[simp] theorem State.startWait_drawCount (r : Nibble) :
    (s.startWait r).drawCount = s.drawCount := rfl

@[simp] theorem State.endWait_mem : (s.endWait).mem = s.mem := rfl
@[simp] theorem State.endWait_v : (s.endWait).v = s.v := rfl
@[simp] theorem State.endWait_i : (s.endWait).i = s.i := rfl
@[simp] theorem State.endWait_pc : (s.endWait).pc = s.pc := rfl
@[simp] theorem State.endWait_stack : (s.endWait).stack = s.stack := rfl
@[simp] theorem State.endWait_sp : (s.endWait).sp = s.sp := rfl
@[simp] theorem State.endWait_dt : (s.endWait).dt = s.dt := rfl
@[simp] theorem State.endWait_st : (s.endWait).st = s.st := rfl
@[simp] theorem State.endWait_keys : (s.endWait).keys = s.keys := rfl
@[simp] theorem State.endWait_keyWaiting : (s.endWait).keyWaiting = false := rfl
@[simp] theorem State.endWait_regWaiting : (s.endWait).regWaiting = s.regWaiting := rfl
@[simp] theorem State.endWait_fault : (s.endWait).fault = s.fault := rfl
@[simp] theorem State.endWait_faultOp : (s.endWait).faultOp = s.faultOp := rfl
@[simp] theorem State.endWait_faultPc : (s.endWait).faultPc = s.faultPc := rfl
@[simp] theorem State.endWait_pix : (s.endWait).pix = s.pix := rfl
@[simp] theorem State.endWait_clockspeed : (s.endWait).clockspeed = s.clockspeed := rfl
@[simp] theorem State.endWait_quirks : (s.endWait).quirks = s.quirks := rfl
@[simp] theorem State.endWait_oobPolicy : (s.endWait).oobPolicy = s.oobPolicy := rfl
@[simp] theorem State.endWait_drawCount : (s.endWait).drawCount = s.drawCount := rfl

@[simp] theorem State.setPix_mem (p : Screen) : (s.setPix p).mem = s.mem := rfl
@[simp] theorem State.setPix_v (p : Screen) : (s.setPix p).v = s.v := rfl
@[simp] theorem State.setPix_i (p : Screen) : (s.setPix p).i = s.i := rfl
@[simp] theorem State.setPix_pc (p : Screen) : (s.setPix p).pc = s.pc := rfl
@[simp] theorem State.setPix_stack (p : Screen) : (s.setPix p).stack = s.stack := rfl
@[simp] theorem State.setPix_sp (p : Screen) : (s.setPix p).sp = s.sp := rfl
@[simp] theorem State.setPix_dt (p : Screen) : (s.setPix p).dt = s.dt := rfl
@[simp] theorem State.setPix_st (p : Screen) : (s.setPix p).st = s.st := rfl
@[simp] theorem State.setPix_keys (p : Screen) : (s.setPix p).keys = s.keys := rfl
@[simp] theorem State.setPix_keyWaiting (p : Screen) :
    (s.setPix p).keyWaiting = s.keyWaiting := rfl
@[simp] theorem State.setPix_regWaiting (p : Screen) :
    (s.setPix p).regWaiting = s.regWaiting := rfl
@[simp] theorem State.setPix_fault (p : Screen) : (s.setPix p).fault = s.fault := rfl
@[simp] theorem State.setPix_faultOp (p : Screen) : (s.setPix p).faultOp = s.faultOp := rfl
@[simp] theorem State.setPix_faultPc (p : Screen) : (s.setPix p).faultPc = s.faultPc := rfl
@[simp] theorem State.setPix_pix (p : Screen) : (s.setPix p).pix = p := rfl
@[simp] theorem State.setPix_clockspeed (p : Screen) :
    (s.setPix p).clockspeed = s.clockspeed := rfl
@[simp] theorem State.setPix_quirks (p : Screen) : (s.setPix p).quirks = s.quirks := rfl
@[simp] theorem State.setPix_oobPolicy (p : Screen) : (s.setPix p).oobPolicy = s.oobPolicy := rfl
@[simp] theorem State.setPix_drawCount (p : Screen) : (s.setPix p).drawCount = s.drawCount := rfl

@[simp] theorem State.setMem_mem (m : List Host.Cell) : (s.setMem m).mem = m := rfl
@[simp] theorem State.setMem_v (m : List Host.Cell) : (s.setMem m).v = s.v := rfl
@[simp] theorem State.setMem_i (m : List Host.Cell) : (s.setMem m).i = s.i := rfl
@[simp] theorem State.setMem_pc (m : List Host.Cell) : (s.setMem m).pc = s.pc := rfl
@[simp] theorem State.setMem_stack (m : List Host.Cell) : (s.setMem m).stack = s.stack := rfl
@[simp] theorem State.setMem_sp (m : List Host.Cell) : (s.setMem m).sp = s.sp := rfl
@[simp] theorem State.setMem_dt (m : List Host.Cell) : (s.setMem m).dt = s.dt := rfl
@[simp] theorem State.setMem_st (m : List Host.Cell) : (s.setMem m).st = s.st := rfl
@[simp] theorem State.setMem_keys (m : List Host.Cell) : (s.setMem m).keys = s.keys := rfl
@[simp] theorem State.setMem_keyWaiting (m : List Host.Cell) :
    (s.setMem m).keyWaiting = s.keyWaiting := rfl
@[simp] theorem State.setMem_regWaiting (m : List Host.Cell) :
    (s.setMem m).regWaiting = s.regWaiting := rfl
@[simp] theorem State.setMem_fault (m : List Host.Cell) : (s.setMem m).fault = s.fault := rfl
@[simp] theorem State.setMem_faultOp (m : List Host.Cell) :
    (s.setMem m).faultOp = s.faultOp := rfl
@[simp] theorem State.setMem_faultPc (m : List Host.Cell) :
    (s.setMem m).faultPc = s.faultPc := rfl
@[simp] theorem State.setMem_pix (m : List Host.Cell) : (s.setMem m).pix = s.pix := rfl
@[simp] theorem State.setMem_clockspeed (m : List Host.Cell) :
    (s.setMem m).clockspeed = s.clockspeed := rfl
@[simp] theorem State.setMem_quirks (m : List Host.Cell) : (s.setMem m).quirks = s.quirks := rfl
@[simp] theorem State.setMem_oobPolicy (m : List Host.Cell) :
    (s.setMem m).oobPolicy = s.oobPolicy := rfl
@[simp] theorem State.setMem_drawCount (m : List Host.Cell) :
    (s.setMem m).drawCount = s.drawCount := rfl

@[simp] theorem State.setStack_mem (k : Nat) (w : Word) (h : k < 16) :
    (s.setStack k w h).mem = s.mem := rfl
@[simp] theorem State.setStack_v (k : Nat) (w : Word) (h : k < 16) :
    (s.setStack k w h).v = s.v := rfl
@[simp] theorem State.setStack_i (k : Nat) (w : Word) (h : k < 16) :
    (s.setStack k w h).i = s.i := rfl
@[simp] theorem State.setStack_pc (k : Nat) (w : Word) (h : k < 16) :
    (s.setStack k w h).pc = s.pc := rfl
@[simp] theorem State.setStack_stack (k : Nat) (w : Word) (h : k < 16) :
    (s.setStack k w h).stack = s.stack.set k w h := rfl
@[simp] theorem State.setStack_sp (k : Nat) (w : Word) (h : k < 16) :
    (s.setStack k w h).sp = s.sp := rfl
@[simp] theorem State.setStack_dt (k : Nat) (w : Word) (h : k < 16) :
    (s.setStack k w h).dt = s.dt := rfl
@[simp] theorem State.setStack_st (k : Nat) (w : Word) (h : k < 16) :
    (s.setStack k w h).st = s.st := rfl
@[simp] theorem State.setStack_keys (k : Nat) (w : Word) (h : k < 16) :
    (s.setStack k w h).keys = s.keys := rfl
@[simp] theorem State.setStack_keyWaiting (k : Nat) (w : Word) (h : k < 16) :
    (s.setStack k w h).keyWaiting = s.keyWaiting := rfl
@[simp] theorem State.setStack_regWaiting (k : Nat) (w : Word) (h : k < 16) :
    (s.setStack k w h).regWaiting = s.regWaiting := rfl
@[simp] theorem State.setStack_fault (k : Nat) (w : Word) (h : k < 16) :
    (s.setStack k w h).fault = s.fault := rfl
@[simp] theorem State.setStack_faultOp (k : Nat) (w : Word) (h : k < 16) :
    (s.setStack k w h).faultOp = s.faultOp := rfl
@[simp] theorem State.setStack_faultPc (k : Nat) (w : Word) (h : k < 16) :
    (s.setStack k w h).faultPc = s.faultPc := rfl
@[simp] theorem State.setStack_pix (k : Nat) (w : Word) (h : k < 16) :
    (s.setStack k w h).pix = s.pix := rfl
@[simp] theorem State.setStack_clockspeed (k : Nat) (w : Word) (h : k < 16) :
    (s.setStack k w h).clockspeed = s.clockspeed := rfl
@[simp] theorem State.setStack_quirks (k : Nat) (w : Word) (h : k < 16) :
    (s.setStack k w h).quirks = s.quirks := rfl
@[simp] theorem State.setStack_oobPolicy (k : Nat) (w : Word) (h : k < 16) :
    (s.setStack k w h).oobPolicy = s.oobPolicy := rfl
@[simp] theorem State.setStack_drawCount (k : Nat) (w : Word) (h : k < 16) :
    (s.setStack k w h).drawCount = s.drawCount := rfl

@[simp] theorem State.setSp_mem (n : BitVec 5) : (s.setSp n).mem = s.mem := rfl
@[simp] theorem State.setSp_v (n : BitVec 5) : (s.setSp n).v = s.v := rfl
@[simp] theorem State.setSp_i (n : BitVec 5) : (s.setSp n).i = s.i := rfl
@[simp] theorem State.setSp_pc (n : BitVec 5) : (s.setSp n).pc = s.pc := rfl
@[simp] theorem State.setSp_stack (n : BitVec 5) : (s.setSp n).stack = s.stack := rfl
@[simp] theorem State.setSp_sp (n : BitVec 5) : (s.setSp n).sp = n := rfl
@[simp] theorem State.setSp_dt (n : BitVec 5) : (s.setSp n).dt = s.dt := rfl
@[simp] theorem State.setSp_st (n : BitVec 5) : (s.setSp n).st = s.st := rfl
@[simp] theorem State.setSp_keys (n : BitVec 5) : (s.setSp n).keys = s.keys := rfl
@[simp] theorem State.setSp_keyWaiting (n : BitVec 5) :
    (s.setSp n).keyWaiting = s.keyWaiting := rfl
@[simp] theorem State.setSp_regWaiting (n : BitVec 5) :
    (s.setSp n).regWaiting = s.regWaiting := rfl
@[simp] theorem State.setSp_fault (n : BitVec 5) : (s.setSp n).fault = s.fault := rfl
@[simp] theorem State.setSp_faultOp (n : BitVec 5) : (s.setSp n).faultOp = s.faultOp := rfl
@[simp] theorem State.setSp_faultPc (n : BitVec 5) : (s.setSp n).faultPc = s.faultPc := rfl
@[simp] theorem State.setSp_pix (n : BitVec 5) : (s.setSp n).pix = s.pix := rfl
@[simp] theorem State.setSp_clockspeed (n : BitVec 5) :
    (s.setSp n).clockspeed = s.clockspeed := rfl
@[simp] theorem State.setSp_quirks (n : BitVec 5) : (s.setSp n).quirks = s.quirks := rfl
@[simp] theorem State.setSp_oobPolicy (n : BitVec 5) : (s.setSp n).oobPolicy = s.oobPolicy := rfl
@[simp] theorem State.setSp_drawCount (n : BitVec 5) : (s.setSp n).drawCount = s.drawCount := rfl

@[simp] theorem State.setQuirks_mem (q : Quirks) : (s.setQuirks q).mem = s.mem := rfl
@[simp] theorem State.setQuirks_v (q : Quirks) : (s.setQuirks q).v = s.v := rfl
@[simp] theorem State.setQuirks_i (q : Quirks) : (s.setQuirks q).i = s.i := rfl
@[simp] theorem State.setQuirks_pc (q : Quirks) : (s.setQuirks q).pc = s.pc := rfl
@[simp] theorem State.setQuirks_stack (q : Quirks) : (s.setQuirks q).stack = s.stack := rfl
@[simp] theorem State.setQuirks_sp (q : Quirks) : (s.setQuirks q).sp = s.sp := rfl
@[simp] theorem State.setQuirks_dt (q : Quirks) : (s.setQuirks q).dt = s.dt := rfl
@[simp] theorem State.setQuirks_st (q : Quirks) : (s.setQuirks q).st = s.st := rfl
@[simp] theorem State.setQuirks_keys (q : Quirks) : (s.setQuirks q).keys = s.keys := rfl
@[simp] theorem State.setQuirks_keyWaiting (q : Quirks) :
    (s.setQuirks q).keyWaiting = s.keyWaiting := rfl
@[simp] theorem State.setQuirks_regWaiting (q : Quirks) :
    (s.setQuirks q).regWaiting = s.regWaiting := rfl
@[simp] theorem State.setQuirks_fault (q : Quirks) : (s.setQuirks q).fault = s.fault := rfl
@[simp] theorem State.setQuirks_faultOp (q : Quirks) : (s.setQuirks q).faultOp = s.faultOp := rfl
@[simp] theorem State.setQuirks_faultPc (q : Quirks) : (s.setQuirks q).faultPc = s.faultPc := rfl
@[simp] theorem State.setQuirks_pix (q : Quirks) : (s.setQuirks q).pix = s.pix := rfl
@[simp] theorem State.setQuirks_clockspeed (q : Quirks) :
    (s.setQuirks q).clockspeed = s.clockspeed := rfl
@[simp] theorem State.setQuirks_quirks (q : Quirks) : (s.setQuirks q).quirks = q := rfl
@[simp] theorem State.setQuirks_oobPolicy (q : Quirks) :
    (s.setQuirks q).oobPolicy = s.oobPolicy := rfl
@[simp] theorem State.setQuirks_drawCount (q : Quirks) :
    (s.setQuirks q).drawCount = s.drawCount := rfl

@[simp] theorem State.setClockspeed_mem (hz : Nat) : (s.setClockspeed hz).mem = s.mem := rfl
@[simp] theorem State.setClockspeed_v (hz : Nat) : (s.setClockspeed hz).v = s.v := rfl
@[simp] theorem State.setClockspeed_i (hz : Nat) : (s.setClockspeed hz).i = s.i := rfl
@[simp] theorem State.setClockspeed_pc (hz : Nat) : (s.setClockspeed hz).pc = s.pc := rfl
@[simp] theorem State.setClockspeed_stack (hz : Nat) : (s.setClockspeed hz).stack = s.stack := rfl
@[simp] theorem State.setClockspeed_sp (hz : Nat) : (s.setClockspeed hz).sp = s.sp := rfl
@[simp] theorem State.setClockspeed_dt (hz : Nat) : (s.setClockspeed hz).dt = s.dt := rfl
@[simp] theorem State.setClockspeed_st (hz : Nat) : (s.setClockspeed hz).st = s.st := rfl
@[simp] theorem State.setClockspeed_keys (hz : Nat) : (s.setClockspeed hz).keys = s.keys := rfl
@[simp] theorem State.setClockspeed_keyWaiting (hz : Nat) :
    (s.setClockspeed hz).keyWaiting = s.keyWaiting := rfl
@[simp] theorem State.setClockspeed_regWaiting (hz : Nat) :
    (s.setClockspeed hz).regWaiting = s.regWaiting := rfl
@[simp] theorem State.setClockspeed_fault (hz : Nat) : (s.setClockspeed hz).fault = s.fault := rfl
@[simp] theorem State.setClockspeed_faultOp (hz : Nat) :
    (s.setClockspeed hz).faultOp = s.faultOp := rfl
@[simp] theorem State.setClockspeed_faultPc (hz : Nat) :
    (s.setClockspeed hz).faultPc = s.faultPc := rfl
@[simp] theorem State.setClockspeed_pix (hz : Nat) : (s.setClockspeed hz).pix = s.pix := rfl
@[simp] theorem State.setClockspeed_clockspeed (hz : Nat) :
    (s.setClockspeed hz).clockspeed = hz := rfl
@[simp] theorem State.setClockspeed_quirks (hz : Nat) :
    (s.setClockspeed hz).quirks = s.quirks := rfl
@[simp] theorem State.setClockspeed_oobPolicy (hz : Nat) :
    (s.setClockspeed hz).oobPolicy = s.oobPolicy := rfl
@[simp] theorem State.setClockspeed_drawCount (hz : Nat) :
    (s.setClockspeed hz).drawCount = s.drawCount := rfl

@[simp] theorem State.advance_mem : (s.advance).mem = s.mem := rfl
@[simp] theorem State.advance_v : (s.advance).v = s.v := rfl
@[simp] theorem State.advance_i : (s.advance).i = s.i := rfl
@[simp] theorem State.advance_pc : (s.advance).pc = s.pc + 2 := rfl
@[simp] theorem State.advance_stack : (s.advance).stack = s.stack := rfl
@[simp] theorem State.advance_sp : (s.advance).sp = s.sp := rfl
@[simp] theorem State.advance_dt : (s.advance).dt = s.dt := rfl
@[simp] theorem State.advance_st : (s.advance).st = s.st := rfl
@[simp] theorem State.advance_keys : (s.advance).keys = s.keys := rfl
@[simp] theorem State.advance_keyWaiting : (s.advance).keyWaiting = s.keyWaiting := rfl
@[simp] theorem State.advance_regWaiting : (s.advance).regWaiting = s.regWaiting := rfl
@[simp] theorem State.advance_fault : (s.advance).fault = s.fault := rfl
@[simp] theorem State.advance_faultOp : (s.advance).faultOp = s.faultOp := rfl
@[simp] theorem State.advance_faultPc : (s.advance).faultPc = s.faultPc := rfl
@[simp] theorem State.advance_pix : (s.advance).pix = s.pix := rfl
@[simp] theorem State.advance_clockspeed : (s.advance).clockspeed = s.clockspeed := rfl
@[simp] theorem State.advance_quirks : (s.advance).quirks = s.quirks := rfl
@[simp] theorem State.advance_oobPolicy : (s.advance).oobPolicy = s.oobPolicy := rfl
@[simp] theorem State.advance_drawCount : (s.advance).drawCount = s.drawCount := rfl

@[simp] theorem State.writeByte_mem (a : Nat) (b : Byte) :
    (s.writeByte a b).mem = cellWrite s.mem (a % Config.memSize) b := rfl
@[simp] theorem State.writeByte_v (a : Nat) (b : Byte) : (s.writeByte a b).v = s.v := rfl
@[simp] theorem State.writeByte_i (a : Nat) (b : Byte) : (s.writeByte a b).i = s.i := rfl
@[simp] theorem State.writeByte_pc (a : Nat) (b : Byte) : (s.writeByte a b).pc = s.pc := rfl
@[simp] theorem State.writeByte_stack (a : Nat) (b : Byte) :
    (s.writeByte a b).stack = s.stack := rfl
@[simp] theorem State.writeByte_sp (a : Nat) (b : Byte) : (s.writeByte a b).sp = s.sp := rfl
@[simp] theorem State.writeByte_dt (a : Nat) (b : Byte) : (s.writeByte a b).dt = s.dt := rfl
@[simp] theorem State.writeByte_st (a : Nat) (b : Byte) : (s.writeByte a b).st = s.st := rfl
@[simp] theorem State.writeByte_keys (a : Nat) (b : Byte) : (s.writeByte a b).keys = s.keys := rfl
@[simp] theorem State.writeByte_keyWaiting (a : Nat) (b : Byte) :
    (s.writeByte a b).keyWaiting = s.keyWaiting := rfl
@[simp] theorem State.writeByte_regWaiting (a : Nat) (b : Byte) :
    (s.writeByte a b).regWaiting = s.regWaiting := rfl
@[simp] theorem State.writeByte_fault (a : Nat) (b : Byte) :
    (s.writeByte a b).fault = s.fault := rfl
@[simp] theorem State.writeByte_faultOp (a : Nat) (b : Byte) :
    (s.writeByte a b).faultOp = s.faultOp := rfl
@[simp] theorem State.writeByte_faultPc (a : Nat) (b : Byte) :
    (s.writeByte a b).faultPc = s.faultPc := rfl
@[simp] theorem State.writeByte_pix (a : Nat) (b : Byte) : (s.writeByte a b).pix = s.pix := rfl
@[simp] theorem State.writeByte_clockspeed (a : Nat) (b : Byte) :
    (s.writeByte a b).clockspeed = s.clockspeed := rfl
@[simp] theorem State.writeByte_quirks (a : Nat) (b : Byte) :
    (s.writeByte a b).quirks = s.quirks := rfl
@[simp] theorem State.writeByte_oobPolicy (a : Nat) (b : Byte) :
    (s.writeByte a b).oobPolicy = s.oobPolicy := rfl
@[simp] theorem State.writeByte_drawCount (a : Nat) (b : Byte) :
    (s.writeByte a b).drawCount = s.drawCount := rfl

@[simp] theorem State.toRunning_mem : (s.toRunning).mem = s.mem := rfl
@[simp] theorem State.toRunning_v : (s.toRunning).v = s.v := rfl
@[simp] theorem State.toRunning_i : (s.toRunning).i = s.i := rfl
@[simp] theorem State.toRunning_pc : (s.toRunning).pc = s.pc := rfl
@[simp] theorem State.toRunning_stack : (s.toRunning).stack = s.stack := rfl
@[simp] theorem State.toRunning_sp : (s.toRunning).sp = s.sp := rfl
@[simp] theorem State.toRunning_dt : (s.toRunning).dt = s.dt := rfl
@[simp] theorem State.toRunning_st : (s.toRunning).st = s.st := rfl
@[simp] theorem State.toRunning_keys : (s.toRunning).keys = s.keys := rfl
@[simp] theorem State.toRunning_keyWaiting : (s.toRunning).keyWaiting = false := rfl
@[simp] theorem State.toRunning_regWaiting : (s.toRunning).regWaiting = s.regWaiting := rfl
@[simp] theorem State.toRunning_fault : (s.toRunning).fault = none := rfl
@[simp] theorem State.toRunning_faultOp : (s.toRunning).faultOp = s.faultOp := rfl
@[simp] theorem State.toRunning_faultPc : (s.toRunning).faultPc = s.faultPc := rfl
@[simp] theorem State.toRunning_pix : (s.toRunning).pix = s.pix := rfl
@[simp] theorem State.toRunning_clockspeed : (s.toRunning).clockspeed = s.clockspeed := rfl
@[simp] theorem State.toRunning_quirks : (s.toRunning).quirks = s.quirks := rfl
@[simp] theorem State.toRunning_oobPolicy : (s.toRunning).oobPolicy = s.oobPolicy := rfl
@[simp] theorem State.toRunning_drawCount : (s.toRunning).drawCount = s.drawCount := rfl

@[simp] theorem State.enterFault_mem (c : FaultCause) (op a : Word) :
    (s.enterFault c op a).mem = s.mem := rfl
@[simp] theorem State.enterFault_v (c : FaultCause) (op a : Word) :
    (s.enterFault c op a).v = s.v := rfl
@[simp] theorem State.enterFault_i (c : FaultCause) (op a : Word) :
    (s.enterFault c op a).i = s.i := rfl
@[simp] theorem State.enterFault_pc (c : FaultCause) (op a : Word) :
    (s.enterFault c op a).pc = a := rfl
@[simp] theorem State.enterFault_stack (c : FaultCause) (op a : Word) :
    (s.enterFault c op a).stack = s.stack := rfl
@[simp] theorem State.enterFault_sp (c : FaultCause) (op a : Word) :
    (s.enterFault c op a).sp = s.sp := rfl
@[simp] theorem State.enterFault_dt (c : FaultCause) (op a : Word) :
    (s.enterFault c op a).dt = s.dt := rfl
@[simp] theorem State.enterFault_st (c : FaultCause) (op a : Word) :
    (s.enterFault c op a).st = s.st := rfl
@[simp] theorem State.enterFault_keys (c : FaultCause) (op a : Word) :
    (s.enterFault c op a).keys = s.keys := rfl
@[simp] theorem State.enterFault_keyWaiting (c : FaultCause) (op a : Word) :
    (s.enterFault c op a).keyWaiting = s.keyWaiting := rfl
@[simp] theorem State.enterFault_regWaiting (c : FaultCause) (op a : Word) :
    (s.enterFault c op a).regWaiting = s.regWaiting := rfl
@[simp] theorem State.enterFault_fault (c : FaultCause) (op a : Word) :
    (s.enterFault c op a).fault = some c := rfl
@[simp] theorem State.enterFault_faultOp (c : FaultCause) (op a : Word) :
    (s.enterFault c op a).faultOp = op := rfl
@[simp] theorem State.enterFault_faultPc (c : FaultCause) (op a : Word) :
    (s.enterFault c op a).faultPc = a := rfl
@[simp] theorem State.enterFault_pix (c : FaultCause) (op a : Word) :
    (s.enterFault c op a).pix = s.pix := rfl
@[simp] theorem State.enterFault_clockspeed (c : FaultCause) (op a : Word) :
    (s.enterFault c op a).clockspeed = s.clockspeed := rfl
@[simp] theorem State.enterFault_quirks (c : FaultCause) (op a : Word) :
    (s.enterFault c op a).quirks = s.quirks := rfl
@[simp] theorem State.enterFault_oobPolicy (c : FaultCause) (op a : Word) :
    (s.enterFault c op a).oobPolicy = s.oobPolicy := rfl
@[simp] theorem State.enterFault_drawCount (c : FaultCause) (op a : Word) :
    (s.enterFault c op a).drawCount = s.drawCount := rfl

@[simp] theorem State.countDraw_mem : (s.countDraw).mem = s.mem := rfl
@[simp] theorem State.countDraw_v : (s.countDraw).v = s.v := rfl
@[simp] theorem State.countDraw_i : (s.countDraw).i = s.i := rfl
@[simp] theorem State.countDraw_pc : (s.countDraw).pc = s.pc := rfl
@[simp] theorem State.countDraw_stack : (s.countDraw).stack = s.stack := rfl
@[simp] theorem State.countDraw_sp : (s.countDraw).sp = s.sp := rfl
@[simp] theorem State.countDraw_dt : (s.countDraw).dt = s.dt := rfl
@[simp] theorem State.countDraw_st : (s.countDraw).st = s.st := rfl
@[simp] theorem State.countDraw_keys : (s.countDraw).keys = s.keys := rfl
@[simp] theorem State.countDraw_keyWaiting : (s.countDraw).keyWaiting = s.keyWaiting := rfl
@[simp] theorem State.countDraw_regWaiting : (s.countDraw).regWaiting = s.regWaiting := rfl
@[simp] theorem State.countDraw_fault : (s.countDraw).fault = s.fault := rfl
@[simp] theorem State.countDraw_faultOp : (s.countDraw).faultOp = s.faultOp := rfl
@[simp] theorem State.countDraw_faultPc : (s.countDraw).faultPc = s.faultPc := rfl
@[simp] theorem State.countDraw_pix : (s.countDraw).pix = s.pix := rfl
@[simp] theorem State.countDraw_clockspeed : (s.countDraw).clockspeed = s.clockspeed := rfl
@[simp] theorem State.countDraw_quirks : (s.countDraw).quirks = s.quirks := rfl
@[simp] theorem State.countDraw_oobPolicy : (s.countDraw).oobPolicy = s.oobPolicy := rfl
@[simp] theorem State.countDraw_drawCount : (s.countDraw).drawCount = s.drawCount + 1 := rfl

-- what the reads of a register, a byte and a pixel see of the other updates
@[simp] theorem State.reg_setPc (a : Word) (q : Nibble) :
    (s.setPc a).reg q = s.reg q := rfl
@[simp] theorem State.reg_setI (a : Word) (q : Nibble) :
    (s.setI a).reg q = s.reg q := rfl
@[simp] theorem State.reg_setDt (b : Byte) (q : Nibble) :
    (s.setDt b).reg q = s.reg q := rfl
@[simp] theorem State.reg_setSt (b : Byte) (q : Nibble) :
    (s.setSt b).reg q = s.reg q := rfl
@[simp] theorem State.reg_setKeys (k : Word) (q : Nibble) :
    (s.setKeys k).reg q = s.reg q := rfl
@[simp] theorem State.reg_startWait (r : Nibble) (q : Nibble) :
    (s.startWait r).reg q = s.reg q := rfl
@[simp] theorem State.reg_endWait (q : Nibble) :
    (s.endWait).reg q = s.reg q := rfl
@[simp] theorem State.reg_setPix (p : Screen) (q : Nibble) :
    (s.setPix p).reg q = s.reg q := rfl
@[simp] theorem State.reg_setMem (m : List Host.Cell) (q : Nibble) :
    (s.setMem m).reg q = s.reg q := rfl
@[simp] theorem State.reg_setStack (k : Nat) (w : Word) (h : k < 16) (q : Nibble) :
    (s.setStack k w h).reg q = s.reg q := rfl
@[simp] theorem State.reg_setSp (n : BitVec 5) (q : Nibble) :
    (s.setSp n).reg q = s.reg q := rfl
@[simp] theorem State.reg_setQuirks (c : Quirks) (q : Nibble) :
    (s.setQuirks c).reg q = s.reg q := rfl
@[simp] theorem State.reg_setClockspeed (hz : Nat) (q : Nibble) :
    (s.setClockspeed hz).reg q = s.reg q := rfl
@[simp] theorem State.reg_advance (q : Nibble) :
    (s.advance).reg q = s.reg q := rfl
@[simp] theorem State.reg_writeByte (a : Nat) (b : Byte) (q : Nibble) :
    (s.writeByte a b).reg q = s.reg q := rfl
@[simp] theorem State.reg_toRunning (q : Nibble) :
    (s.toRunning).reg q = s.reg q := rfl
@[simp] theorem State.reg_enterFault (c : FaultCause) (op a : Word) (q : Nibble) :
    (s.enterFault c op a).reg q = s.reg q := rfl
@[simp] theorem State.reg_countDraw (q : Nibble) :
    (s.countDraw).reg q = s.reg q := rfl

@[simp] theorem State.readByte_setReg (r : Nibble) (b : Byte) (m : Nat) :
    (s.setReg r b).readByte m = s.readByte m := rfl
@[simp] theorem State.readByte_setPc (a : Word) (m : Nat) :
    (s.setPc a).readByte m = s.readByte m := rfl
@[simp] theorem State.readByte_setI (a : Word) (m : Nat) :
    (s.setI a).readByte m = s.readByte m := rfl
@[simp] theorem State.readByte_setDt (b : Byte) (m : Nat) :
    (s.setDt b).readByte m = s.readByte m := rfl
@[simp] theorem State.readByte_setSt (b : Byte) (m : Nat) :
    (s.setSt b).readByte m = s.readByte m := rfl
@[simp] theorem State.readByte_setKeys (k : Word) (m : Nat) :
    (s.setKeys k).readByte m = s.readByte m := rfl
@[simp] theorem State.readByte_startWait (r : Nibble) (m : Nat) :
    (s.startWait r).readByte m = s.readByte m := rfl
@[simp] theorem State.readByte_endWait (m : Nat) :
    (s.endWait).readByte m = s.readByte m := rfl
@[simp] theorem State.readByte_setPix (p : Screen) (m : Nat) :
    (s.setPix p).readByte m = s.readByte m := rfl
@[simp] theorem State.readByte_setStack (k : Nat) (w : Word) (h : k < 16) (m : Nat) :
    (s.setStack k w h).readByte m = s.readByte m := rfl
@[simp] theorem State.readByte_setSp (n : BitVec 5) (m : Nat) :
    (s.setSp n).readByte m = s.readByte m := rfl
@[simp] theorem State.readByte_setQuirks (q : Quirks) (m : Nat) :
    (s.setQuirks q).readByte m = s.readByte m := rfl
@[simp] theorem State.readByte_setClockspeed (hz : Nat) (m : Nat) :
    (s.setClockspeed hz).readByte m = s.readByte m := rfl
@[simp] theorem State.readByte_advance (m : Nat) :
    (s.advance).readByte m = s.readByte m := rfl
@[simp] theorem State.readByte_toRunning (m : Nat) :
    (s.toRunning).readByte m = s.readByte m := rfl
@[simp] theorem State.readByte_enterFault (c : FaultCause) (op a : Word) (m : Nat) :
    (s.enterFault c op a).readByte m = s.readByte m := rfl
@[simp] theorem State.readByte_countDraw (m : Nat) :
    (s.countDraw).readByte m = s.readByte m := rfl

@[simp] theorem State.pixel_setReg (q : Nibble) (b : Byte) (c : Fin 64) (r : Fin 32) :
    (s.setReg q b).pixel c r = s.pixel c r := rfl
@[simp] theorem State.pixel_setPc (a : Word) (c : Fin 64) (r : Fin 32) :
    (s.setPc a).pixel c r = s.pixel c r := rfl
@[simp] theorem State.pixel_setI (a : Word) (c : Fin 64) (r : Fin 32) :
    (s.setI a).pixel c r = s.pixel c r := rfl
@[simp] theorem State.pixel_setDt (b : Byte) (c : Fin 64) (r : Fin 32) :
    (s.setDt b).pixel c r = s.pixel c r := rfl
@[simp] theorem State.pixel_setSt (b : Byte) (c : Fin 64) (r : Fin 32) :
    (s.setSt b).pixel c r = s.pixel c r := rfl
@[simp] theorem State.pixel_setKeys (k : Word) (c : Fin 64) (r : Fin 32) :
    (s.setKeys k).pixel c r = s.pixel c r := rfl
@[simp] theorem State.pixel_startWait (q : Nibble) (c : Fin 64) (r : Fin 32) :
    (s.startWait q).pixel c r = s.pixel c r := rfl
@[simp] theorem State.pixel_endWait (c : Fin 64) (r : Fin 32) :
    (s.endWait).pixel c r = s.pixel c r := rfl
@[simp] theorem State.pixel_setMem (m : List Host.Cell) (c : Fin 64) (r : Fin 32) :
    (s.setMem m).pixel c r = s.pixel c r := rfl
@[simp] theorem State.pixel_setStack (k : Nat) (w : Word) (h : k < 16) (c : Fin 64) (r : Fin 32) :
    (s.setStack k w h).pixel c r = s.pixel c r := rfl
@[simp] theorem State.pixel_setSp (n : BitVec 5) (c : Fin 64) (r : Fin 32) :
    (s.setSp n).pixel c r = s.pixel c r := rfl
@[simp] theorem State.pixel_setQuirks (q : Quirks) (c : Fin 64) (r : Fin 32) :
    (s.setQuirks q).pixel c r = s.pixel c r := rfl
@[simp] theorem State.pixel_setClockspeed (hz : Nat) (c : Fin 64) (r : Fin 32) :
    (s.setClockspeed hz).pixel c r = s.pixel c r := rfl
@[simp] theorem State.pixel_advance (c : Fin 64) (r : Fin 32) :
    (s.advance).pixel c r = s.pixel c r := rfl
@[simp] theorem State.pixel_writeByte (a : Nat) (b : Byte) (c : Fin 64) (r : Fin 32) :
    (s.writeByte a b).pixel c r = s.pixel c r := rfl
@[simp] theorem State.pixel_toRunning (c : Fin 64) (r : Fin 32) :
    (s.toRunning).pixel c r = s.pixel c r := rfl
@[simp] theorem State.pixel_enterFault (x : FaultCause) (op a : Word) (c : Fin 64) (r : Fin 32) :
    (s.enterFault x op a).pixel c r = s.pixel c r := rfl
@[simp] theorem State.pixel_countDraw (c : Fin 64) (r : Fin 32) :
    (s.countDraw).pixel c r = s.pixel c r := rfl

end

end Sys2Proof.Machine
end

