-- ==== Sys2Proof/Laws/Memory.lean ====
section
/-! SUPPORT. Memory by bytes: a read after a write, the canonical form every write keeps, and the
equality of canonical memories that read alike. -/

namespace Sys2Proof.Machine

open Memory (wf wfFrom)

theorem wfFrom_cons {lo a : Nat} {b : Byte} {m : List Host.Cell} :
    wfFrom lo ((a, b) :: m) = true ↔
      lo ≤ a ∧ a < 4096 ∧ b ≠ background a ∧ wfFrom (a + 1) m = true := by
  simp [wfFrom, and_assoc]

theorem wfFrom_mono {lo lo' : Nat} (h : lo' ≤ lo) {m : List Host.Cell}
    (hm : wfFrom lo m = true) : wfFrom lo' m = true := by
  cases m with
  | nil => rfl
  | cons c m => obtain ⟨h1, h2⟩ := wfFrom_cons.1 hm; exact wfFrom_cons.2 ⟨h.trans h1, h2⟩

/-- Below a canonical list's first address every byte is its background. -/
theorem cellRead_of_lt {lo a : Nat} (h : a < lo) {m : List Host.Cell} (hm : wfFrom lo m = true) :
    cellRead m a = background a := by
  induction m generalizing lo with
  | nil => rfl
  | cons c m ih =>
    obtain ⟨a', b'⟩ := c
    obtain ⟨h1, -, -, h4⟩ := wfFrom_cons.1 hm
    rw [cellRead, if_neg (by omega), ih (by omega) h4]

theorem cellRead_consCell {lo a : Nat} {b : Byte} {m : List Host.Cell} (ha : a < lo)
    (hm : wfFrom lo m = true) (c : Nat) :
    cellRead (consCell a b m) c = if c = a then b else cellRead m c := by
  unfold consCell
  split
  · split
    · subst_vars; exact cellRead_of_lt ha hm
    · rfl
  · rw [cellRead]
    simp only [eq_comm (a := a)]

/-- A read after a write in a canonical memory. -/
theorem cellRead_cellWrite {lo : Nat} {m : List Host.Cell} (hm : wfFrom lo m = true) (a : Nat)
    (b : Byte) (c : Nat) :
    cellRead (cellWrite m a b) c = if c = a then b else cellRead m c := by
  induction m generalizing lo with
  | nil => exact cellRead_consCell (lo := a + 1) (by omega) rfl c
  | cons d m ih =>
    obtain ⟨a', b'⟩ := d
    obtain ⟨-, h2, h3, h4⟩ := wfFrom_cons.1 hm
    unfold cellWrite
    split
    · rename_i hlt
      exact cellRead_consCell hlt (wfFrom_cons.2 ⟨le_rfl, h2, h3, h4⟩) c
    · split
      · rename_i heq
        subst heq
        rw [cellRead_consCell (Nat.lt_succ_self a) h4, cellRead]
        by_cases hc : c = a
        · rw [if_pos hc, if_pos hc]
        · rw [if_neg hc, if_neg hc, if_neg (Ne.symm hc)]
      · simp only [cellRead, ih h4]
        split <;> split <;> simp_all

theorem wfFrom_consCell {lo a : Nat} {b : Byte} {m : List Host.Cell} (h1 : lo ≤ a) (h2 : a < 4096)
    (hm : wfFrom (a + 1) m = true) : wfFrom lo (consCell a b m) = true := by
  unfold consCell
  split
  · exact wfFrom_mono (by omega) hm
  · exact wfFrom_cons.2 ⟨h1, h2, ‹_›, hm⟩

/-- A write keeps the canonical form. -/
theorem wfFrom_cellWrite {lo : Nat} {m : List Host.Cell} (hm : wfFrom lo m = true) {a : Nat}
    (h1 : lo ≤ a) (h2 : a < 4096) (b : Byte) : wfFrom lo (cellWrite m a b) = true := by
  induction m generalizing lo with
  | nil => exact wfFrom_consCell h1 h2 rfl
  | cons d m ih =>
    obtain ⟨a', b'⟩ := d
    obtain ⟨g1, g2, g3, g4⟩ := wfFrom_cons.1 hm
    unfold cellWrite
    split
    · exact wfFrom_consCell h1 h2 (wfFrom_cons.2 ⟨‹_›, g2, g3, g4⟩)
    · split
      · exact wfFrom_consCell h1 h2 (by subst_vars; exact g4)
      · exact wfFrom_cons.2 ⟨g1, g2, g3, ih g4 (by omega)⟩

/-- Canonical memories that read alike are equal lists. -/
theorem eq_of_cellRead_eq {lo : Nat} {m m' : List Host.Cell} (hm : wfFrom lo m = true)
    (hm' : wfFrom lo m' = true) (h : ∀ a < 4096, cellRead m a = cellRead m' a) : m = m' := by
  induction m generalizing lo m' with
  | nil =>
    cases m' with
    | nil => rfl
    | cons d m' =>
      obtain ⟨-, g2, g3, -⟩ := wfFrom_cons.1 hm'
      exact absurd (by simpa [cellRead] using (h d.1 g2).symm) g3
  | cons c m ih =>
    obtain ⟨a, b⟩ := c
    obtain ⟨f1, f2, f3, f4⟩ := wfFrom_cons.1 hm
    cases m' with
    | nil => exact absurd (by simpa [cellRead] using h a f2) f3
    | cons d m' =>
      obtain ⟨a', b'⟩ := d
      obtain ⟨g1, g2, g3, g4⟩ := wfFrom_cons.1 hm'
      have haa : a = a' := by
        rcases Nat.lt_trichotomy a a' with hlt | heq | hgt
        · have := h a f2
          rw [cellRead, if_pos rfl, cellRead_of_lt hlt (wfFrom_cons.2 ⟨le_rfl, g2, g3, g4⟩)] at this
          exact absurd this f3
        · exact heq
        · have := h a' g2
          rw [cellRead_of_lt hgt (wfFrom_cons.2 ⟨le_rfl, f2, f3, f4⟩), cellRead, if_pos rfl] at this
          exact absurd this.symm g3
      subst haa
      have hb : b = b' := by simpa [cellRead] using h a f2
      subst hb
      rw [ih f4 g4 fun x hx => ?_]
      rcases Nat.lt_or_ge x (a + 1) with hlt | hge
      · rw [cellRead_of_lt hlt f4, cellRead_of_lt hlt g4]
      · simpa [cellRead, show ¬ a = x by omega] using h x hx

/-- A read after a byte write, anywhere (20_memory R62, R68). -/
theorem State.readByte_writeByte {s : State} (hm : wf s.mem = true) (a : Nat) (b : Byte) (c : Nat) :
    (s.writeByte a b).readByte c = if c % 4096 = a % 4096 then b else s.readByte c :=
  cellRead_cellWrite hm _ b _

/-- A byte write keeps the canonical form. -/
theorem State.wf_writeByte {s : State} (hm : wf s.mem = true) (a : Nat) (b : Byte) :
    wf (s.writeByte a b).mem = true :=
  wfFrom_cellWrite hm (Nat.zero_le _) (Nat.mod_lt _ (by decide)) b

/-- Writing bytes keeps the canonical form. -/
theorem State.wf_writeBytes {s : State} (hm : wf s.mem = true) (a : Nat) (bs : List Byte) :
    wf (s.writeBytes a bs).mem = true := by
  induction bs generalizing s a with
  | nil => exact hm
  | cons b bs ih => exact ih (s.wf_writeByte hm a b) (a + 1)

/-- Writing bytes changes memory and nothing else. -/
theorem State.writeBytes_eq_setMem (s : State) (a : Nat) (bs : List Byte) :
    s.writeBytes a bs = s.setMem (s.writeBytes a bs).mem := by
  induction bs generalizing s a with
  | nil => rfl
  | cons b bs ih =>
    rw [writeBytes, ih]
    rfl

/-- A byte away from every written address reads as before. -/
theorem State.readByte_writeBytes_of_ne {s : State} (hm : wf s.mem = true) {a : Nat} {bs : List Byte}
    {c : Nat} (h : ∀ k < bs.length, c % 4096 ≠ (a + k) % 4096) :
    (s.writeBytes a bs).readByte c = s.readByte c := by
  induction bs generalizing s a with
  | nil => rfl
  | cons b bs ih =>
    rw [writeBytes, ih (s.wf_writeByte hm a b) fun k hk => by
        have := h (k + 1) (by simpa using hk)
        rwa [show a + (k + 1) = a + 1 + k by omega] at this,
      s.readByte_writeByte hm, if_neg (by simpa using h 0 (by simp))]

/-- The written bytes read back, for at most 4096 of them (no address is written twice). -/
theorem State.readByte_writeBytes {s : State} (hm : wf s.mem = true) {a : Nat} {bs : List Byte}
    (hl : bs.length ≤ 4096) {k : Nat} (hk : k < bs.length) :
    (s.writeBytes a bs).readByte (a + k) = bs[k] := by
  induction bs generalizing s a k with
  | nil => simp at hk
  | cons b bs ih =>
    simp only [List.length_cons] at hl hk
    cases k with
    | zero =>
      rw [writeBytes, State.readByte_writeBytes_of_ne (s.wf_writeByte hm a b) fun k hk => by omega,
        s.readByte_writeByte hm]
      simp
    | succ k =>
      rw [writeBytes, show a + (k + 1) = a + 1 + k by omega, ih (s.wf_writeByte hm a b) (by omega) (by omega)]
      rfl

/-- A word stored at PC is the word the next fetch reads (20_memory R61, R71). -/
theorem State.fetchWord_storeAtPc {s : State} (hm : wf s.mem = true) (op : Word) :
    (s.storeAtPc op).fetchWord = op := by
  have h := s.wf_writeByte hm s.pc.toNat (highByte op)
  simp only [fetchWord, readWord, storeAtPc, writeByte_pc, readByte_writeByte h,
    readByte_writeByte hm]
  rw [if_neg (by omega), if_true, if_true, wordOfBytes_high_low]

end Sys2Proof.Machine
end

