-- ==== Sys2Proof/Laws/Registers.lean ====
section
/-! SUPPORT. What the shared operations over registers, the stack and the fault record do: one lemma
for everything each can do. -/

namespace Sys2Proof.Machine

theorem nibble_eq_iff {a b : Nibble} : a = b ↔ a.toNat = b.toNat :=
  ⟨congrArg _, BitVec.eq_of_toNat_eq⟩

/-- A register read after a register write. -/
theorem State.reg_setReg (s : State) (r : Nibble) (b : Byte) (q : Nibble) :
    (s.setReg r b).reg q = if q = r then b else s.reg q := by
  simp only [reg, setReg, Vector.getElem_set, nibble_eq_iff, eq_comm (a := r.toNat)]

@[simp] theorem State.reg_setReg_self (s : State) (r : Nibble) (b : Byte) :
    (s.setReg r b).reg r = b := by rw [reg_setReg, if_pos rfl]

theorem State.reg_setReg_ne (s : State) {r q : Nibble} (b : Byte) (h : q ≠ r) :
    (s.setReg r b).reg q = s.reg q := by rw [reg_setReg, if_neg h]

/-- Writing a result and then the flag: VF holds the flag, whatever x is (10_state R23). -/
theorem State.reg_setRegFlag (s : State) (x : Nibble) (b : Byte) (f : Bool) (q : Nibble) :
    (s.setRegFlag x b f).reg q = if q = VF then flagByte f else if q = x then b else s.reg q := by
  simp only [setRegFlag, reg_setReg]

/-- Writing a logic result (42_alu R163 to R165). -/
theorem State.reg_setRegLogic (s : State) (x : Nibble) (b : Byte) (q : Nibble) :
    (s.setRegLogic x b).reg q =
      if s.quirks.logicOpsResetVf = true ∧ q = VF then 0 else if q = x then b else s.reg q := by
  unfold setRegLogic
  by_cases h : s.quirks.logicOpsResetVf = true <;> simp [h, reg_setReg]

theorem State.reg_setIndexFlag (s : State) (f : Bool) (q : Nibble) :
    (s.setIndexFlag f).reg q =
      if s.quirks.fx1eSetsVf = true ∧ q = VF then flagByte f else s.reg q := by
  unfold setIndexFlag
  by_cases h : s.quirks.fx1eSetsVf = true <;> simp [h, reg_setReg]

/-- The three flag writers change registers only. -/
theorem State.setRegFlag_eq (s : State) (x : Nibble) (b : Byte) (f : Bool) :
    s.setRegFlag x b f = { s with v := (s.setRegFlag x b f).v } := rfl

theorem State.setRegLogic_eq (s : State) (x : Nibble) (b : Byte) :
    s.setRegLogic x b = { s with v := (s.setRegLogic x b).v } := by
  unfold setRegLogic; split <;> rfl

theorem State.setIndexFlag_eq (s : State) (f : Bool) :
    s.setIndexFlag f = { s with v := (s.setIndexFlag f).v } := by
  unfold setIndexFlag; split <;> rfl

theorem flagByte_cases (f : Bool) : flagByte f = 0 ∨ flagByte f = 1 := by cases f <;> simp [flagByte]

/-- A skip changes PC only, by 2 or not at all (41_control_flow R138). -/
theorem State.skipIf_eq (s : State) (c : Bool) :
    s.skipIf c = s.setPc (if c then s.pc + 2 else s.pc) := by
  unfold skipIf; cases c <;> rfl

/-- The block advance changes I only (43_index_memory R194, R195). -/
theorem State.blockAdvance_eq (s : State) (x : Nibble) :
    s.blockAdvance x = s.setI
      (if s.quirks.loadStoreIncrementsI then s.i + BitVec.ofNat 16 (x.toNat + 1) else s.i) := by
  unfold blockAdvance; split <;> rfl

/-- Loading registers changes registers only. -/
theorem State.loadRegs_eq (s : State) (a k n : Nat) :
    s.loadRegs a k n = { s with v := (s.loadRegs a k n).v } := by
  induction n generalizing s k with
  | zero => rfl
  | succ n ih => rw [loadRegs, ih]; rfl

/-- The loaded registers hold the bytes at `a + k`, the others what they held (43_index_memory R195). -/
theorem State.reg_loadRegs (s : State) (a k n : Nat) (h : k + n ≤ 16) (q : Nibble) :
    (s.loadRegs a k n).reg q =
      if k ≤ q.toNat ∧ q.toNat < k + n then s.readByte (a + q.toNat) else s.reg q := by
  induction n generalizing s k with
  | zero => rw [loadRegs, if_neg (by omega)]
  | succ n ih =>
    have hk : (BitVec.ofNat 4 k : Nibble).toNat = k := by
      rw [BitVec.toNat_ofNat]; exact Nat.mod_eq_of_lt (by omega)
    rw [loadRegs, ih _ _ (by omega), reg_setReg, readByte_setReg]
    by_cases hq : q.toNat = k
    · rw [if_neg (by omega), if_pos (nibble_eq_iff.2 (hq.trans hk.symm)), if_pos (by omega), hq]
    · rw [if_neg fun h => hq ((congrArg _ h).trans hk)]
      by_cases h2 : k + 1 ≤ q.toNat ∧ q.toNat < k + 1 + n
      · rw [if_pos h2, if_pos (by omega)]
      · rw [if_neg h2, if_neg (by omega)]

@[simp] theorem State.length_regBlock (s : State) (n : Nat) : (s.regBlock n).length = n := by
  simp [regBlock]

theorem State.getElem_regBlock (s : State) (n k : Nat) (h : k < (s.regBlock n).length) :
    (s.regBlock n)[k] = s.reg (BitVec.ofNat 4 k) := by simp [regBlock]

/-- Push, when `STACK[SP]` exists (41_control_flow R132). -/
theorem State.push_of_lt {s : State} (w : Word) (h : s.sp.toNat < 16) :
    s.push w = some ((s.setStack s.sp.toNat w h).setSp (s.sp + 1)) := dif_pos h

/-- Pop, when `STACK[SP - 1]` exists (41_control_flow R130). -/
theorem State.pop_of_lt {s : State} (h : (s.sp - 1).toNat < 16) :
    s.pop = some (s.stack[(s.sp - 1).toNat]'h, s.setSp (s.sp - 1)) := dif_pos h

/-- The stack pointer of a pop, as a number. -/
theorem sp_sub_one_toNat {sp : BitVec 5} (h : sp ≠ 0) : (sp - 1).toNat = sp.toNat - 1 := by
  revert sp; decide

/-- The stack pointer of a push, as a number. -/
theorem sp_add_one_toNat {sp : BitVec 5} (h : sp.toNat < 16) : (sp + 1).toNat = sp.toNat + 1 := by
  revert sp; decide

/-- Well-formedness, by its parts (10_state R46). -/
theorem State.wellFormed_iff {s : State} :
    s.wellFormed = true ↔ s.sp.toNat ≤ 16 ∧ ¬(s.keyWaiting = true ∧ s.fault.isSome = true) ∧
      Memory.wf s.mem = true ∧ (s.fault = some .addressFault → s.oobPolicy = .fault) := by
  simp only [wellFormed, Bool.and_eq_true, decide_eq_true_eq, Bool.not_eq_true', and_assoc,
    Bool.and_eq_false_iff, not_and_or, Bool.not_eq_true]

/-- Well-formedness reads the memory, SP, the run state and the policy only. -/
theorem State.wellFormed_congr {s t : State} (h1 : t.mem = s.mem) (h2 : t.sp = s.sp)
    (h3 : t.keyWaiting = s.keyWaiting) (h4 : t.fault = s.fault) (h5 : t.oobPolicy = s.oobPolicy) :
    t.wellFormed = s.wellFormed := by simp only [wellFormed, h1, h2, h3, h4, h5]

end Sys2Proof.Machine
end

