-- ==== Sys2Proof/Laws/Compound.lean ====
section
/-! SUPPORT. What the compound updates leave in each field they do not write. -/

namespace Sys2Proof.Machine

section
variable (s : State)

@[simp] theorem State.setRegFlag_mem (x : Nibble) (b : Byte) (f : Bool) :
    (s.setRegFlag x b f).mem = s.mem := rfl
@[simp] theorem State.setRegFlag_i (x : Nibble) (b : Byte) (f : Bool) :
    (s.setRegFlag x b f).i = s.i := rfl
@[simp] theorem State.setRegFlag_pc (x : Nibble) (b : Byte) (f : Bool) :
    (s.setRegFlag x b f).pc = s.pc := rfl
@[simp] theorem State.setRegFlag_stack (x : Nibble) (b : Byte) (f : Bool) :
    (s.setRegFlag x b f).stack = s.stack := rfl
@[simp] theorem State.setRegFlag_sp (x : Nibble) (b : Byte) (f : Bool) :
    (s.setRegFlag x b f).sp = s.sp := rfl
@[simp] theorem State.setRegFlag_dt (x : Nibble) (b : Byte) (f : Bool) :
    (s.setRegFlag x b f).dt = s.dt := rfl
@[simp] theorem State.setRegFlag_st (x : Nibble) (b : Byte) (f : Bool) :
    (s.setRegFlag x b f).st = s.st := rfl
@[simp] theorem State.setRegFlag_keys (x : Nibble) (b : Byte) (f : Bool) :
    (s.setRegFlag x b f).keys = s.keys := rfl
@[simp] theorem State.setRegFlag_keyWaiting (x : Nibble) (b : Byte) (f : Bool) :
    (s.setRegFlag x b f).keyWaiting = s.keyWaiting := rfl
@[simp] theorem State.setRegFlag_regWaiting (x : Nibble) (b : Byte) (f : Bool) :
    (s.setRegFlag x b f).regWaiting = s.regWaiting := rfl
@[simp] theorem State.setRegFlag_fault (x : Nibble) (b : Byte) (f : Bool) :
    (s.setRegFlag x b f).fault = s.fault := rfl
@[simp] theorem State.setRegFlag_faultOp (x : Nibble) (b : Byte) (f : Bool) :
    (s.setRegFlag x b f).faultOp = s.faultOp := rfl
@[simp] theorem State.setRegFlag_faultPc (x : Nibble) (b : Byte) (f : Bool) :
    (s.setRegFlag x b f).faultPc = s.faultPc := rfl
@[simp] theorem State.setRegFlag_pix (x : Nibble) (b : Byte) (f : Bool) :
    (s.setRegFlag x b f).pix = s.pix := rfl
@[simp] theorem State.setRegFlag_clockspeed (x : Nibble) (b : Byte) (f : Bool) :
    (s.setRegFlag x b f).clockspeed = s.clockspeed := rfl
@[simp] theorem State.setRegFlag_quirks (x : Nibble) (b : Byte) (f : Bool) :
    (s.setRegFlag x b f).quirks = s.quirks := rfl
@[simp] theorem State.setRegFlag_oobPolicy (x : Nibble) (b : Byte) (f : Bool) :
    (s.setRegFlag x b f).oobPolicy = s.oobPolicy := rfl
@[simp] theorem State.setRegFlag_drawCount (x : Nibble) (b : Byte) (f : Bool) :
    (s.setRegFlag x b f).drawCount = s.drawCount := rfl

@[simp] theorem State.setRegLogic_mem (x : Nibble) (b : Byte) :
    (s.setRegLogic x b).mem = s.mem := by rw [setRegLogic_eq]
@[simp] theorem State.setRegLogic_i (x : Nibble) (b : Byte) :
    (s.setRegLogic x b).i = s.i := by rw [setRegLogic_eq]
@[simp] theorem State.setRegLogic_pc (x : Nibble) (b : Byte) :
    (s.setRegLogic x b).pc = s.pc := by rw [setRegLogic_eq]
@[simp] theorem State.setRegLogic_stack (x : Nibble) (b : Byte) :
    (s.setRegLogic x b).stack = s.stack := by rw [setRegLogic_eq]
@[simp] theorem State.setRegLogic_sp (x : Nibble) (b : Byte) :
    (s.setRegLogic x b).sp = s.sp := by rw [setRegLogic_eq]
@[simp] theorem State.setRegLogic_dt (x : Nibble) (b : Byte) :
    (s.setRegLogic x b).dt = s.dt := by rw [setRegLogic_eq]
@[simp] theorem State.setRegLogic_st (x : Nibble) (b : Byte) :
    (s.setRegLogic x b).st = s.st := by rw [setRegLogic_eq]
@[simp] theorem State.setRegLogic_keys (x : Nibble) (b : Byte) :
    (s.setRegLogic x b).keys = s.keys := by rw [setRegLogic_eq]
@[simp] theorem State.setRegLogic_keyWaiting (x : Nibble) (b : Byte) :
    (s.setRegLogic x b).keyWaiting = s.keyWaiting := by rw [setRegLogic_eq]
@[simp] theorem State.setRegLogic_regWaiting (x : Nibble) (b : Byte) :
    (s.setRegLogic x b).regWaiting = s.regWaiting := by rw [setRegLogic_eq]
@[simp] theorem State.setRegLogic_fault (x : Nibble) (b : Byte) :
    (s.setRegLogic x b).fault = s.fault := by rw [setRegLogic_eq]
@[simp] theorem State.setRegLogic_faultOp (x : Nibble) (b : Byte) :
    (s.setRegLogic x b).faultOp = s.faultOp := by rw [setRegLogic_eq]
@[simp] theorem State.setRegLogic_faultPc (x : Nibble) (b : Byte) :
    (s.setRegLogic x b).faultPc = s.faultPc := by rw [setRegLogic_eq]
@[simp] theorem State.setRegLogic_pix (x : Nibble) (b : Byte) :
    (s.setRegLogic x b).pix = s.pix := by rw [setRegLogic_eq]
@[simp] theorem State.setRegLogic_clockspeed (x : Nibble) (b : Byte) :
    (s.setRegLogic x b).clockspeed = s.clockspeed := by rw [setRegLogic_eq]
@[simp] theorem State.setRegLogic_quirks (x : Nibble) (b : Byte) :
    (s.setRegLogic x b).quirks = s.quirks := by rw [setRegLogic_eq]
@[simp] theorem State.setRegLogic_oobPolicy (x : Nibble) (b : Byte) :
    (s.setRegLogic x b).oobPolicy = s.oobPolicy := by rw [setRegLogic_eq]
@[simp] theorem State.setRegLogic_drawCount (x : Nibble) (b : Byte) :
    (s.setRegLogic x b).drawCount = s.drawCount := by rw [setRegLogic_eq]

@[simp] theorem State.setIndexFlag_mem (f : Bool) :
    (s.setIndexFlag f).mem = s.mem := by rw [setIndexFlag_eq]
@[simp] theorem State.setIndexFlag_i (f : Bool) :
    (s.setIndexFlag f).i = s.i := by rw [setIndexFlag_eq]
@[simp] theorem State.setIndexFlag_pc (f : Bool) :
    (s.setIndexFlag f).pc = s.pc := by rw [setIndexFlag_eq]
@[simp] theorem State.setIndexFlag_stack (f : Bool) :
    (s.setIndexFlag f).stack = s.stack := by rw [setIndexFlag_eq]
@[simp] theorem State.setIndexFlag_sp (f : Bool) :
    (s.setIndexFlag f).sp = s.sp := by rw [setIndexFlag_eq]
@[simp] theorem State.setIndexFlag_dt (f : Bool) :
    (s.setIndexFlag f).dt = s.dt := by rw [setIndexFlag_eq]
@[simp] theorem State.setIndexFlag_st (f : Bool) :
    (s.setIndexFlag f).st = s.st := by rw [setIndexFlag_eq]
@[simp] theorem State.setIndexFlag_keys (f : Bool) :
    (s.setIndexFlag f).keys = s.keys := by rw [setIndexFlag_eq]
@[simp] theorem State.setIndexFlag_keyWaiting (f : Bool) :
    (s.setIndexFlag f).keyWaiting = s.keyWaiting := by rw [setIndexFlag_eq]
@[simp] theorem State.setIndexFlag_regWaiting (f : Bool) :
    (s.setIndexFlag f).regWaiting = s.regWaiting := by rw [setIndexFlag_eq]
@[simp] theorem State.setIndexFlag_fault (f : Bool) :
    (s.setIndexFlag f).fault = s.fault := by rw [setIndexFlag_eq]
@[simp] theorem State.setIndexFlag_faultOp (f : Bool) :
    (s.setIndexFlag f).faultOp = s.faultOp := by rw [setIndexFlag_eq]
@[simp] theorem State.setIndexFlag_faultPc (f : Bool) :
    (s.setIndexFlag f).faultPc = s.faultPc := by rw [setIndexFlag_eq]
@[simp] theorem State.setIndexFlag_pix (f : Bool) :
    (s.setIndexFlag f).pix = s.pix := by rw [setIndexFlag_eq]
@[simp] theorem State.setIndexFlag_clockspeed (f : Bool) :
    (s.setIndexFlag f).clockspeed = s.clockspeed := by rw [setIndexFlag_eq]
@[simp] theorem State.setIndexFlag_quirks (f : Bool) :
    (s.setIndexFlag f).quirks = s.quirks := by rw [setIndexFlag_eq]
@[simp] theorem State.setIndexFlag_oobPolicy (f : Bool) :
    (s.setIndexFlag f).oobPolicy = s.oobPolicy := by rw [setIndexFlag_eq]
@[simp] theorem State.setIndexFlag_drawCount (f : Bool) :
    (s.setIndexFlag f).drawCount = s.drawCount := by rw [setIndexFlag_eq]

@[simp] theorem State.skipIf_mem (c : Bool) :
    (s.skipIf c).mem = s.mem := by rw [skipIf_eq]; rfl
@[simp] theorem State.skipIf_v (c : Bool) :
    (s.skipIf c).v = s.v := by rw [skipIf_eq]; rfl
@[simp] theorem State.skipIf_i (c : Bool) :
    (s.skipIf c).i = s.i := by rw [skipIf_eq]; rfl
@[simp] theorem State.skipIf_stack (c : Bool) :
    (s.skipIf c).stack = s.stack := by rw [skipIf_eq]; rfl
@[simp] theorem State.skipIf_sp (c : Bool) :
    (s.skipIf c).sp = s.sp := by rw [skipIf_eq]; rfl
@[simp] theorem State.skipIf_dt (c : Bool) :
    (s.skipIf c).dt = s.dt := by rw [skipIf_eq]; rfl
@[simp] theorem State.skipIf_st (c : Bool) :
    (s.skipIf c).st = s.st := by rw [skipIf_eq]; rfl
@[simp] theorem State.skipIf_keys (c : Bool) :
    (s.skipIf c).keys = s.keys := by rw [skipIf_eq]; rfl
@[simp] theorem State.skipIf_keyWaiting (c : Bool) :
    (s.skipIf c).keyWaiting = s.keyWaiting := by rw [skipIf_eq]; rfl
@[simp] theorem State.skipIf_regWaiting (c : Bool) :
    (s.skipIf c).regWaiting = s.regWaiting := by rw [skipIf_eq]; rfl
@[simp] theorem State.skipIf_fault (c : Bool) :
    (s.skipIf c).fault = s.fault := by rw [skipIf_eq]; rfl
@[simp] theorem State.skipIf_faultOp (c : Bool) :
    (s.skipIf c).faultOp = s.faultOp := by rw [skipIf_eq]; rfl
@[simp] theorem State.skipIf_faultPc (c : Bool) :
    (s.skipIf c).faultPc = s.faultPc := by rw [skipIf_eq]; rfl
@[simp] theorem State.skipIf_pix (c : Bool) :
    (s.skipIf c).pix = s.pix := by rw [skipIf_eq]; rfl
@[simp] theorem State.skipIf_clockspeed (c : Bool) :
    (s.skipIf c).clockspeed = s.clockspeed := by rw [skipIf_eq]; rfl
@[simp] theorem State.skipIf_quirks (c : Bool) :
    (s.skipIf c).quirks = s.quirks := by rw [skipIf_eq]; rfl
@[simp] theorem State.skipIf_oobPolicy (c : Bool) :
    (s.skipIf c).oobPolicy = s.oobPolicy := by rw [skipIf_eq]; rfl
@[simp] theorem State.skipIf_drawCount (c : Bool) :
    (s.skipIf c).drawCount = s.drawCount := by rw [skipIf_eq]; rfl

@[simp] theorem State.blockAdvance_mem (x : Nibble) :
    (s.blockAdvance x).mem = s.mem := by rw [blockAdvance_eq]; rfl
@[simp] theorem State.blockAdvance_v (x : Nibble) :
    (s.blockAdvance x).v = s.v := by rw [blockAdvance_eq]; rfl
@[simp] theorem State.blockAdvance_pc (x : Nibble) :
    (s.blockAdvance x).pc = s.pc := by rw [blockAdvance_eq]; rfl
@[simp] theorem State.blockAdvance_stack (x : Nibble) :
    (s.blockAdvance x).stack = s.stack := by rw [blockAdvance_eq]; rfl
@[simp] theorem State.blockAdvance_sp (x : Nibble) :
    (s.blockAdvance x).sp = s.sp := by rw [blockAdvance_eq]; rfl
@[simp] theorem State.blockAdvance_dt (x : Nibble) :
    (s.blockAdvance x).dt = s.dt := by rw [blockAdvance_eq]; rfl
@[simp] theorem State.blockAdvance_st (x : Nibble) :
    (s.blockAdvance x).st = s.st := by rw [blockAdvance_eq]; rfl
@[simp] theorem State.blockAdvance_keys (x : Nibble) :
    (s.blockAdvance x).keys = s.keys := by rw [blockAdvance_eq]; rfl
@[simp] theorem State.blockAdvance_keyWaiting (x : Nibble) :
    (s.blockAdvance x).keyWaiting = s.keyWaiting := by rw [blockAdvance_eq]; rfl
@[simp] theorem State.blockAdvance_regWaiting (x : Nibble) :
    (s.blockAdvance x).regWaiting = s.regWaiting := by rw [blockAdvance_eq]; rfl
@[simp] theorem State.blockAdvance_fault (x : Nibble) :
    (s.blockAdvance x).fault = s.fault := by rw [blockAdvance_eq]; rfl
@[simp] theorem State.blockAdvance_faultOp (x : Nibble) :
    (s.blockAdvance x).faultOp = s.faultOp := by rw [blockAdvance_eq]; rfl
@[simp] theorem State.blockAdvance_faultPc (x : Nibble) :
    (s.blockAdvance x).faultPc = s.faultPc := by rw [blockAdvance_eq]; rfl
@[simp] theorem State.blockAdvance_pix (x : Nibble) :
    (s.blockAdvance x).pix = s.pix := by rw [blockAdvance_eq]; rfl
@[simp] theorem State.blockAdvance_clockspeed (x : Nibble) :
    (s.blockAdvance x).clockspeed = s.clockspeed := by rw [blockAdvance_eq]; rfl
@[simp] theorem State.blockAdvance_quirks (x : Nibble) :
    (s.blockAdvance x).quirks = s.quirks := by rw [blockAdvance_eq]; rfl
@[simp] theorem State.blockAdvance_oobPolicy (x : Nibble) :
    (s.blockAdvance x).oobPolicy = s.oobPolicy := by rw [blockAdvance_eq]; rfl
@[simp] theorem State.blockAdvance_drawCount (x : Nibble) :
    (s.blockAdvance x).drawCount = s.drawCount := by rw [blockAdvance_eq]; rfl

@[simp] theorem State.loadRegs_mem (a k n : Nat) :
    (s.loadRegs a k n).mem = s.mem := by rw [loadRegs_eq]
@[simp] theorem State.loadRegs_i (a k n : Nat) :
    (s.loadRegs a k n).i = s.i := by rw [loadRegs_eq]
@[simp] theorem State.loadRegs_pc (a k n : Nat) :
    (s.loadRegs a k n).pc = s.pc := by rw [loadRegs_eq]
@[simp] theorem State.loadRegs_stack (a k n : Nat) :
    (s.loadRegs a k n).stack = s.stack := by rw [loadRegs_eq]
@[simp] theorem State.loadRegs_sp (a k n : Nat) :
    (s.loadRegs a k n).sp = s.sp := by rw [loadRegs_eq]
@[simp] theorem State.loadRegs_dt (a k n : Nat) :
    (s.loadRegs a k n).dt = s.dt := by rw [loadRegs_eq]
@[simp] theorem State.loadRegs_st (a k n : Nat) :
    (s.loadRegs a k n).st = s.st := by rw [loadRegs_eq]
@[simp] theorem State.loadRegs_keys (a k n : Nat) :
    (s.loadRegs a k n).keys = s.keys := by rw [loadRegs_eq]
@[simp] theorem State.loadRegs_keyWaiting (a k n : Nat) :
    (s.loadRegs a k n).keyWaiting = s.keyWaiting := by rw [loadRegs_eq]
@[simp] theorem State.loadRegs_regWaiting (a k n : Nat) :
    (s.loadRegs a k n).regWaiting = s.regWaiting := by rw [loadRegs_eq]
@[simp] theorem State.loadRegs_fault (a k n : Nat) :
    (s.loadRegs a k n).fault = s.fault := by rw [loadRegs_eq]
@[simp] theorem State.loadRegs_faultOp (a k n : Nat) :
    (s.loadRegs a k n).faultOp = s.faultOp := by rw [loadRegs_eq]
@[simp] theorem State.loadRegs_faultPc (a k n : Nat) :
    (s.loadRegs a k n).faultPc = s.faultPc := by rw [loadRegs_eq]
@[simp] theorem State.loadRegs_pix (a k n : Nat) :
    (s.loadRegs a k n).pix = s.pix := by rw [loadRegs_eq]
@[simp] theorem State.loadRegs_clockspeed (a k n : Nat) :
    (s.loadRegs a k n).clockspeed = s.clockspeed := by rw [loadRegs_eq]
@[simp] theorem State.loadRegs_quirks (a k n : Nat) :
    (s.loadRegs a k n).quirks = s.quirks := by rw [loadRegs_eq]
@[simp] theorem State.loadRegs_oobPolicy (a k n : Nat) :
    (s.loadRegs a k n).oobPolicy = s.oobPolicy := by rw [loadRegs_eq]
@[simp] theorem State.loadRegs_drawCount (a k n : Nat) :
    (s.loadRegs a k n).drawCount = s.drawCount := by rw [loadRegs_eq]

@[simp] theorem State.writeBytes_v (a : Nat) (bs : List Byte) :
    (s.writeBytes a bs).v = s.v := by rw [writeBytes_eq_setMem]; rfl
@[simp] theorem State.writeBytes_i (a : Nat) (bs : List Byte) :
    (s.writeBytes a bs).i = s.i := by rw [writeBytes_eq_setMem]; rfl
@[simp] theorem State.writeBytes_pc (a : Nat) (bs : List Byte) :
    (s.writeBytes a bs).pc = s.pc := by rw [writeBytes_eq_setMem]; rfl
@[simp] theorem State.writeBytes_stack (a : Nat) (bs : List Byte) :
    (s.writeBytes a bs).stack = s.stack := by rw [writeBytes_eq_setMem]; rfl
@[simp] theorem State.writeBytes_sp (a : Nat) (bs : List Byte) :
    (s.writeBytes a bs).sp = s.sp := by rw [writeBytes_eq_setMem]; rfl
@[simp] theorem State.writeBytes_dt (a : Nat) (bs : List Byte) :
    (s.writeBytes a bs).dt = s.dt := by rw [writeBytes_eq_setMem]; rfl
@[simp] theorem State.writeBytes_st (a : Nat) (bs : List Byte) :
    (s.writeBytes a bs).st = s.st := by rw [writeBytes_eq_setMem]; rfl
@[simp] theorem State.writeBytes_keys (a : Nat) (bs : List Byte) :
    (s.writeBytes a bs).keys = s.keys := by rw [writeBytes_eq_setMem]; rfl
@[simp] theorem State.writeBytes_keyWaiting (a : Nat) (bs : List Byte) :
    (s.writeBytes a bs).keyWaiting = s.keyWaiting := by rw [writeBytes_eq_setMem]; rfl
@[simp] theorem State.writeBytes_regWaiting (a : Nat) (bs : List Byte) :
    (s.writeBytes a bs).regWaiting = s.regWaiting := by rw [writeBytes_eq_setMem]; rfl
@[simp] theorem State.writeBytes_fault (a : Nat) (bs : List Byte) :
    (s.writeBytes a bs).fault = s.fault := by rw [writeBytes_eq_setMem]; rfl
@[simp] theorem State.writeBytes_faultOp (a : Nat) (bs : List Byte) :
    (s.writeBytes a bs).faultOp = s.faultOp := by rw [writeBytes_eq_setMem]; rfl
@[simp] theorem State.writeBytes_faultPc (a : Nat) (bs : List Byte) :
    (s.writeBytes a bs).faultPc = s.faultPc := by rw [writeBytes_eq_setMem]; rfl
@[simp] theorem State.writeBytes_pix (a : Nat) (bs : List Byte) :
    (s.writeBytes a bs).pix = s.pix := by rw [writeBytes_eq_setMem]; rfl
@[simp] theorem State.writeBytes_clockspeed (a : Nat) (bs : List Byte) :
    (s.writeBytes a bs).clockspeed = s.clockspeed := by rw [writeBytes_eq_setMem]; rfl
@[simp] theorem State.writeBytes_quirks (a : Nat) (bs : List Byte) :
    (s.writeBytes a bs).quirks = s.quirks := by rw [writeBytes_eq_setMem]; rfl
@[simp] theorem State.writeBytes_oobPolicy (a : Nat) (bs : List Byte) :
    (s.writeBytes a bs).oobPolicy = s.oobPolicy := by rw [writeBytes_eq_setMem]; rfl
@[simp] theorem State.writeBytes_drawCount (a : Nat) (bs : List Byte) :
    (s.writeBytes a bs).drawCount = s.drawCount := by rw [writeBytes_eq_setMem]; rfl

@[simp] theorem State.skipIf_pc (c : Bool) :
    (s.skipIf c).pc = if c then s.pc + 2 else s.pc := by rw [skipIf_eq]; rfl
@[simp] theorem State.blockAdvance_i (x : Nibble) :
    (s.blockAdvance x).i =
      if s.quirks.loadStoreIncrementsI then s.i + BitVec.ofNat 16 (x.toNat + 1) else s.i := by
  rw [blockAdvance_eq]; rfl
@[simp] theorem State.reg_skipIf (c : Bool) (q : Nibble) : (s.skipIf c).reg q = s.reg q := by
  rw [skipIf_eq]; rfl
@[simp] theorem State.reg_blockAdvance (x q : Nibble) : (s.blockAdvance x).reg q = s.reg q := by
  rw [blockAdvance_eq]; rfl
@[simp] theorem State.reg_writeBytes (a : Nat) (bs : List Byte) (q : Nibble) :
    (s.writeBytes a bs).reg q = s.reg q := by rw [writeBytes_eq_setMem]; rfl
@[simp] theorem State.readByte_blockAdvance (x : Nibble) (a : Nat) :
    (s.blockAdvance x).readByte a = s.readByte a := by rw [blockAdvance_eq]; rfl

end

end Sys2Proof.Machine
end

