-- ==== Sys2Proof/Laws/Display.lean ====
section
/-! SUPPORT. The draw engine: a sprite lands on distinct pixels (44_display R218), so drawing is the
XOR of the screen with the placed mask, and the collision is whether the mask meets a set pixel. -/

namespace Sys2Proof.Machine

theorem Screen.pixel_setPixel (p : Screen) (c c' : Fin 64) (r r' : Fin 32) (b : Bool) :
    (p.setPixel c r b).pixel c' r' = if c' = c ∧ r' = r then b else p.pixel c' r' := by
  simp only [pixel, setPixel, Vector.getElem_set, Fin.ext_iff]
  by_cases hc : c.val = c'.val
  · simp only [hc, true_and, if_true, Vector.getElem_set]
    simp only [eq_comm (a := r.val)]
  · simp only [if_neg hc, if_neg (fun h => hc h.1.symm : ¬(c'.val = c.val ∧ r'.val = r.val))]

@[simp] theorem Screen.pixel_blank (c : Fin 64) (r : Fin 32) : Screen.blank.pixel c r = false := by
  simp [pixel, blank]

/-- Screens that show the same pixels are equal. -/
theorem Screen.ext_pixel {p q : Screen} (h : ∀ c r, p.pixel c r = q.pixel c r) : p = q := by
  refine Vector.ext fun c hc => Vector.ext fun r hr => h ⟨c, hc⟩ ⟨r, hr⟩

theorem pixel_foldl_flip (ts : List (Fin 64 × Fin 32)) (hn : ts.Nodup) (p : Screen) (b : Bool)
    (c : Fin 64) (r : Fin 32) :
    (ts.foldl flipPixel (p, b)).1.pixel c r = (p.pixel c r ^^ decide ((c, r) ∈ ts)) := by
  induction ts generalizing p b with
  | nil => simp
  | cons t ts ih =>
    obtain ⟨h1, h2⟩ := List.nodup_cons.1 hn
    rw [List.foldl_cons, flipPixel, ih h2, Screen.pixel_setPixel]
    by_cases ht : c = t.1 ∧ r = t.2
    · obtain ⟨rfl, rfl⟩ := ht
      simp [h1]
    · have : (c, r) ≠ t := fun h => ht ⟨congrArg Prod.fst h, congrArg Prod.snd h⟩
      simp [ht, this]

theorem collision_foldl_flip (ts : List (Fin 64 × Fin 32)) (hn : ts.Nodup) (p : Screen) (b : Bool) :
    (ts.foldl flipPixel (p, b)).2 = (b || ts.any fun t => p.pixel t.1 t.2) := by
  induction ts generalizing p b with
  | nil => simp
  | cons t ts ih =>
    obtain ⟨h1, h2⟩ := List.nodup_cons.1 hn
    rw [List.foldl_cons, flipPixel, ih h2, List.any_cons, Bool.or_assoc]
    have : (ts.any fun u => (p.setPixel t.1 t.2 (!p.pixel t.1 t.2)).pixel u.1 u.2) =
        ts.any fun u => p.pixel u.1 u.2 := by
      rw [Bool.eq_iff_iff, List.any_eq_true, List.any_eq_true]
      refine exists_congr fun u => and_congr_right fun hu => ?_
      rw [Screen.pixel_setPixel, if_neg fun e => h1 (by rwa [show t = u from Prod.ext e.1.symm e.2.symm])]
    rw [this]

/-- The final screen is the old screen XOR the placed mask (44_display R214, R218). -/
theorem pixel_drawTargets {ts : List (Fin 64 × Fin 32)} (hn : ts.Nodup) (p : Screen) (c : Fin 64)
    (r : Fin 32) :
    (drawTargets p ts).1.pixel c r = (p.pixel c r ^^ decide ((c, r) ∈ ts)) :=
  pixel_foldl_flip ts hn p false c r

/-- A collision: a target pixel was set before (44_display R215). -/
theorem collision_drawTargets {ts : List (Fin 64 × Fin 32)} (hn : ts.Nodup) (p : Screen) :
    (drawTargets p ts).2 = ts.any fun t => p.pixel t.1 t.2 := by
  rw [drawTargets, collision_foldl_flip ts hn, Bool.false_or]

/-- Where a sprite bit lands (44_display R213). -/
theorem place_eq_some {wrap : Bool} {px py : Nat} {c : Fin 64} {r : Fin 32} :
    place wrap px py = some (c, r) ↔
      if wrap then c.val = px % 64 ∧ r.val = py % 32 else c.val = px ∧ r.val = py := by
  have hc := c.isLt
  have hr := r.isLt
  unfold place
  cases wrap
  · by_cases h : px < 64 ∧ py < 32
    · simp [h, Fin.ext_iff, eq_comm]
    · simp only [Bool.false_eq_true, if_false, dif_neg h]
      constructor
      · intro h; cases h
      · rintro ⟨h1, h2⟩; omega
  · simp [Fin.ext_iff, eq_comm]

theorem mem_rowTargets {wrap : Bool} {cx py : Nat} {b : Byte} {t : Fin 64 × Fin 32} :
    t ∈ rowTargets wrap cx py b ↔ ∃ j < 8, b.getLsbD (7 - j) = true ∧ place wrap (cx + j) py = some t := by
  simp [rowTargets]

/-- The pixels a sprite lands on (44_display R211 to R213). -/
theorem State.mem_spriteTargets {s : State} {cx cy : Byte} {n : Nat} {t : Fin 64 × Fin 32} :
    t ∈ s.spriteTargets cx cy n ↔ ∃ k < n, ∃ j < 8,
      (s.readByte (s.i.toNat + k)).getLsbD (7 - j) = true ∧
        place s.quirks.wrapSprites (cx.toNat + j) (cy.toNat + k) = some t := by
  simp only [spriteTargets, List.mem_flatMap, List.mem_range, mem_rowTargets]

theorem place_inj {wrap : Bool} {px py px' py' : Nat} {t : Fin 64 × Fin 32}
    (h : place wrap px py = some t) (h' : place wrap px' py' = some t) :
    px % 64 = px' % 64 ∧ py % 32 = py' % 32 := by
  obtain ⟨c, r⟩ := t
  have g := place_eq_some.1 h
  have g' := place_eq_some.1 h'
  cases wrap <;> simp only [if_true, if_false, Bool.false_eq_true] at g g' <;>
    (constructor <;> omega)

/-- Within one sprite no pixel is targeted twice (44_display R218). -/
theorem State.nodup_spriteTargets (s : State) (cx cy : Byte) {n : Nat} (hn : n ≤ 32) :
    (s.spriteTargets cx cy n).Nodup := by
  rw [spriteTargets, List.nodup_flatMap]
  constructor
  · intro k _
    rw [List.Nodup, rowTargets, List.pairwise_filterMap]
    refine List.pairwise_lt_range.imp_of_mem fun {a b} ha hb hab t ht u hu htu => ?_
    subst htu
    have := (place_inj (Option.ite_none_right_eq_some.1 ht).2 (Option.ite_none_right_eq_some.1 hu).2).1
    have := List.mem_range.1 ha
    have := List.mem_range.1 hb
    omega
  · refine List.pairwise_lt_range.imp_of_mem fun {a b} ha hb hab t ht hu => ?_
    obtain ⟨j, -, -, h1⟩ := mem_rowTargets.1 ht
    obtain ⟨j', -, -, h2⟩ := mem_rowTargets.1 hu
    have := (place_inj h1 h2).2
    have := List.mem_range.1 ha
    have := List.mem_range.1 hb
    omega

end Sys2Proof.Machine
end

