-- ==== Sys2Proof/Laws/Step.lean ====
section
/-! SUPPORT. What a step can do, said once, and the equations of the meanings that have cases. -/

namespace Sys2Proof.Machine

theorem State.runState_eq_running {s : State} :
    s.runState = .running ↔ s.fault = none ∧ s.keyWaiting = false := by
  unfold runState
  cases s.fault <;> cases s.keyWaiting <;> simp

theorem State.gated_eq_false {s : State} : s.gated = false ↔ s.runState = .running := by
  rw [runState_eq_running]
  unfold gated
  cases s.fault <;> simp

theorem step_of_gated {s : State} (h : s.gated = true) : step s = .next s := by simp [step, h]

theorem step_of_fetchFaults {s : State} (h : s.gated = false) (hf : s.fetchFaults = true) :
    step s = .next (s.enterFault .addressFault 0 s.pc) := by simp [step, h, hf]

/-- A step runs the decoded instruction on the advanced state (40_execution_cycle R113, R114). -/
theorem step_of_ok {s : State} (h : s.gated = false) (hf : s.fetchFaults = false) {i : Instr}
    (hd : decode s.fetchWord = .ok i) : step s = exec i s.advance := by simp [step, h, hf, hd]

theorem step_of_error {s : State} (h : s.gated = false) (hf : s.fetchFaults = false)
    {e : DecodeError} (hd : decode s.fetchWord = .error e) : step s = .next s.advance := by
  simp [step, h, hf, hd]

/-- Everything a step can be (40_execution_cycle R116). -/
theorem step_cases (s : State) :
    (s.gated = true ∧ step s = .next s) ∨
    (s.gated = false ∧ s.fetchFaults = true ∧
      step s = .next (s.enterFault .addressFault 0 s.pc)) ∨
    (s.gated = false ∧ s.fetchFaults = false ∧
      ∃ i, decode s.fetchWord = .ok i ∧ step s = exec i s.advance) ∨
    (s.gated = false ∧ s.fetchFaults = false ∧
      ∃ e, decode s.fetchWord = .error e ∧ step s = .next s.advance) := by
  cases hg : s.gated
  · cases hf : s.fetchFaults
    · cases hd : decode s.fetchWord with
      | ok i => exact .inr (.inr (.inl ⟨rfl, rfl, i, rfl, step_of_ok hg hf hd⟩))
      | error e => exact .inr (.inr (.inr ⟨rfl, rfl, e, rfl, step_of_error hg hf hd⟩))
    · exact .inr (.inl ⟨rfl, rfl, step_of_fetchFaults hg hf⟩)
  · exact .inl ⟨rfl, step_of_gated hg⟩

/-- When a data access faults (20_memory R62). -/
theorem State.dataFaults_iff {s : State} {count : Nat} :
    s.dataFaults count = true ↔
      s.oobPolicy = .fault ∧ count ≠ 0 ∧ 4096 < s.i.toNat + count := by
  simp [dataFaults, and_assoc]

/-- When a fetch faults (40_execution_cycle R112). -/
theorem State.fetchFaults_iff {s : State} :
    s.fetchFaults = true ↔ s.oobPolicy = .fault ∧ 0x0FFF ≤ s.pc.toNat := by
  simp [fetchFaults]

theorem execRet_of_empty {s : State} (h : s.sp = 0) :
    execRet s = .next (s.enterFault .stackUnderflow (encode .ret) (s.pc - 2)) := by
  simp [execRet, h, State.raise]

theorem execRet_of_pos {s : State} (h : s.sp ≠ 0) (hl : (s.sp - 1).toNat < 16) :
    execRet s = .next ((s.setSp (s.sp - 1)).setPc (s.stack[(s.sp - 1).toNat]'hl)) := by
  rw [execRet, if_neg h, State.pop_of_lt hl]; rfl

theorem execCall_of_full {s : State} (nnn : Addr12) (h : s.sp = 16) :
    execCall nnn s = .next (s.enterFault .stackOverflow (encode (.call nnn)) (s.pc - 2)) := by
  simp [execCall, h, State.raise]

theorem execCall_of_lt {s : State} (nnn : Addr12) (h : s.sp.toNat < 16) :
    execCall nnn s =
      .next (((s.setStack s.sp.toNat s.pc h).setSp (s.sp + 1)).setPc (zext16 nnn)) := by
  have h' : s.sp ≠ 16 := fun e => by rw [e] at h; exact absurd h (by decide)
  rw [execCall, if_neg h', State.push_of_lt _ h]; rfl

theorem execLdBVx_of_faults {s : State} (x : Nibble) (h : s.dataFaults 3 = true) :
    execLdBVx x s = .next (s.enterFault .addressFault (encode (.ldBVx x)) (s.pc - 2)) := if_pos h

theorem execLdBVx_of_runs {s : State} (x : Nibble) (h : s.dataFaults 3 = false) :
    execLdBVx x s = .next (s.writeBytes s.i.toNat (bcdDigits (s.reg x))) := by simp [execLdBVx, h]

theorem execLdMemVx_of_faults {s : State} (x : Nibble) (h : s.dataFaults (x.toNat + 1) = true) :
    execLdMemVx x s = .next (s.enterFault .addressFault (encode (.ldMemVx x)) (s.pc - 2)) := if_pos h

theorem execLdMemVx_of_runs {s : State} (x : Nibble) (h : s.dataFaults (x.toNat + 1) = false) :
    execLdMemVx x s =
      .next ((s.writeBytes s.i.toNat (s.regBlock (x.toNat + 1))).blockAdvance x) := by
  simp [execLdMemVx, h]

theorem execLdVxMem_of_faults {s : State} (x : Nibble) (h : s.dataFaults (x.toNat + 1) = true) :
    execLdVxMem x s = .next (s.enterFault .addressFault (encode (.ldVxMem x)) (s.pc - 2)) := if_pos h

theorem execLdVxMem_of_runs {s : State} (x : Nibble) (h : s.dataFaults (x.toNat + 1) = false) :
    execLdVxMem x s = .next ((s.loadRegs s.i.toNat 0 (x.toNat + 1)).blockAdvance x) := by
  simp [execLdVxMem, h]

theorem execDrw_of_faults {s : State} (x y n : Nibble) (h : s.dataFaults n.toNat = true) :
    execDrw x y n s = .next (s.enterFault .addressFault (encode (.drw x y n)) (s.pc - 2)) := if_pos h

theorem execDrw_of_runs {s : State} (x y n : Nibble) (h : s.dataFaults n.toNat = false) :
    execDrw x y n s =
      .next ((s.setPix (drawTargets s.pix (s.spriteTargets (s.reg x) (s.reg y) n.toNat)).1).setReg VF
        (flagByte (drawTargets s.pix (s.spriteTargets (s.reg x) (s.reg y) n.toNat)).2)) := by
  simp [execDrw, h]

/-- `withFetchWord` puts the word where the next step fetches it. -/
theorem State.fetchWord_withFetchWord {s : State} (hm : Memory.wf s.mem = true) (w : Word) :
    (s.withFetchWord 16 w.toNat).fetchWord = w := by
  have h : (BitVec.ofNat 16 (w.toNat % 2 ^ 16) : Word) = w := by
    apply BitVec.eq_of_toNat_eq
    rw [BitVec.toNat_ofNat, Nat.mod_mod]
    exact Nat.mod_eq_of_lt w.isLt
  rw [withFetchWord, h]
  exact fetchWord_storeAtPc (s := s.toRunning) hm w

end Sys2Proof.Machine
end

