-- ==== Sys2Proof/Laws/Frame.lean ====
section
/-! SUPPORT. The frame of each update, and fault entry as the four writes it is. -/

namespace Sys2Proof.Machine

section
variable {s t : State} {regs : List Nibble} {parts : List Part}

/-- A state that differs in registers only. -/
theorem frame_of_v (h : t = { s with v := t.v }) (hq : ∀ q, q ∉ regs → t.reg q = s.reg q) :
    Frame s t regs parts := by
  refine ⟨hq, fun p _ => ?_, by rw [h], by rw [h], by rw [h]⟩
  cases p <;> rw [h] <;> simp [Part.same, State.readByte, State.pixel]

theorem frame_setReg (r : Nibble) (b : Byte) (h : r ∈ regs) : Frame s (s.setReg r b) regs parts :=
  frame_of_v rfl fun _ hq => s.reg_setReg_ne b fun e => hq (e ▸ h)

theorem frame_setPc (a : Word) (h : .pc ∈ parts) : Frame s (s.setPc a) regs parts :=
  ⟨fun _ _ => rfl, fun p hp => by cases p <;> simp_all [Part.same], rfl, rfl, rfl⟩

theorem frame_setI (a : Word) (h : .index ∈ parts) : Frame s (s.setI a) regs parts :=
  ⟨fun _ _ => rfl, fun p hp => by cases p <;> simp_all [Part.same], rfl, rfl, rfl⟩

theorem frame_setDt (b : Byte) (h : .delay ∈ parts) : Frame s (s.setDt b) regs parts :=
  ⟨fun _ _ => rfl, fun p hp => by cases p <;> simp_all [Part.same], rfl, rfl, rfl⟩

theorem frame_setSt (b : Byte) (h : .sound ∈ parts) : Frame s (s.setSt b) regs parts :=
  ⟨fun _ _ => rfl, fun p hp => by cases p <;> simp_all [Part.same], rfl, rfl, rfl⟩

theorem frame_setKeys (k : Word) (h : .keys ∈ parts) : Frame s (s.setKeys k) regs parts :=
  ⟨fun _ _ => rfl, fun p hp => by cases p <;> simp_all [Part.same], rfl, rfl, rfl⟩

theorem frame_startWait (r : Nibble) (h : .wait ∈ parts) : Frame s (s.startWait r) regs parts :=
  ⟨fun _ _ => rfl, fun p hp => by cases p <;> simp_all [Part.same], rfl, rfl, rfl⟩

theorem frame_endWait (h : .wait ∈ parts) : Frame s s.endWait regs parts :=
  ⟨fun _ _ => rfl, fun p hp => by cases p <;> simp_all [Part.same], rfl, rfl, rfl⟩

theorem frame_setPix (p : Screen) (h : .screen ∈ parts) : Frame s (s.setPix p) regs parts :=
  ⟨fun _ _ => rfl, fun q hq => by cases q <;> simp_all [Part.same], rfl, rfl, rfl⟩

theorem frame_setMem (m : List Host.Cell) (h : .memory ∈ parts) : Frame s (s.setMem m) regs parts :=
  ⟨fun _ _ => rfl, fun p hp => by cases p <;> simp_all [Part.same], rfl, rfl, rfl⟩

theorem frame_setStack (k : Nat) (w : Word) (hk : k < 16) (h : .stack ∈ parts) :
    Frame s (s.setStack k w hk) regs parts :=
  ⟨fun _ _ => rfl, fun p hp => by cases p <;> simp_all [Part.same], rfl, rfl, rfl⟩

theorem frame_setSp (n : BitVec 5) (h : .stack ∈ parts) : Frame s (s.setSp n) regs parts :=
  ⟨fun _ _ => rfl, fun p hp => by cases p <;> simp_all [Part.same], rfl, rfl, rfl⟩

theorem frame_countDraw (h : .draws ∈ parts) : Frame s s.countDraw regs parts :=
  ⟨fun _ _ => rfl, fun p hp => by cases p <;> simp_all [Part.same], rfl, rfl, rfl⟩

theorem frame_writeBytes (a : Nat) (bs : List Byte) (h : .memory ∈ parts) :
    Frame s (s.writeBytes a bs) regs parts := by
  rw [State.writeBytes_eq_setMem]; exact frame_setMem _ h

theorem frame_skipIf (c : Bool) (h : .pc ∈ parts) : Frame s (s.skipIf c) regs parts := by
  rw [State.skipIf_eq]; exact frame_setPc _ h

theorem frame_blockAdvance (x : Nibble) (h : .index ∈ parts) :
    Frame s (s.blockAdvance x) regs parts := by
  rw [State.blockAdvance_eq]; exact frame_setI _ h

theorem frame_refl : Frame s s regs parts :=
  ⟨fun _ _ => rfl, fun p _ => by cases p <;> simp [Part.same], rfl, rfl, rfl⟩

theorem Frame.trans {u : State} (h : Frame s t regs parts) (h' : Frame t u regs parts) :
    Frame s u regs parts := by
  obtain ⟨a1, a2, a3, a4, a5⟩ := h
  obtain ⟨b1, b2, b3, b4, b5⟩ := h'
  refine ⟨fun q hq => (b1 q hq).trans (a1 q hq), fun p hp => ?_, b3.trans a3, b4.trans a4,
    b5.trans a5⟩
  have ha := a2 p hp
  have hb := b2 p hp
  cases p <;> simp_all [Part.same]

/-- The four writes of fault entry, and nothing else (60_exceptions R264). -/
theorem faultEntered_enterFault (s : State) (c : FaultCause) (op a : Word) :
    FaultEntered s (s.enterFault c op a) c op a :=
  ⟨rfl, rfl, rfl, rfl, fun _ _ => rfl, fun p hp => by cases p <;> simp_all [Part.same], rfl, rfl, rfl⟩

end

/-- `InRange` is that the data accesses do not fault (20_memory R62). -/
theorem inRange_iff {s : State} {count : Nat} : InRange s count ↔ s.dataFaults count = false := by
  rw [← Bool.not_eq_true, State.dataFaults_iff, InRange]
  constructor
  · rintro h ⟨h1, h2, h3⟩; have := h h1 h2; omega
  · intro h h1 h2; by_contra h3; exact h ⟨h1, h2, by omega⟩

/-- The pixels of a sprite, by the terms of 44_display R211 to R213. -/
theorem mem_spriteTargets_iff {s : State} {cx cy : Byte} {n : Nat} {c : Fin 64} {r : Fin 32} :
    (c, r) ∈ s.spriteTargets cx cy n ↔ SpriteCovers s cx cy n c r := by
  simp only [State.mem_spriteTargets, place_eq_some, SpriteCovers]

end Sys2Proof.Machine
end

