-- ==== Sys2Proof/Laws/PerInstr.lean ====
section
/-! SUPPORT. Per instruction, about the instruction as syntax: its word matches its own row of the
opcode table (30_encoding R86) and is in none of the unknown groups (R95). -/

namespace Sys2Proof.Laws

/-- The word of `i` matches its row, and is a well-formed word. -/
def RowMatch.Statement (i : Instr) : Prop :=
  i.row.covers (encode i) = true ∧ wellFormedWord (encode i) = true

theorem RowMatch.cls : RowMatch.Statement .cls := ⟨by decide, by decide⟩

theorem RowMatch.ret : RowMatch.Statement .ret := ⟨by decide, by decide⟩

theorem RowMatch.jp (nnn : Addr12) : RowMatch.Statement (.jp nnn) := ⟨by
    simp [Instr.row, OpcodeRow.covers, encode, mask_F000]; rfl, by
    rw [wellFormedWord_eq]; simp [encode]⟩

theorem RowMatch.call (nnn : Addr12) : RowMatch.Statement (.call nnn) := ⟨by
    simp [Instr.row, OpcodeRow.covers, encode, mask_F000]; rfl, by
    rw [wellFormedWord_eq]; simp [encode]⟩

theorem RowMatch.seImm (x : Nibble) (nn : Byte) : RowMatch.Statement (.seImm x nn) := ⟨by
    simp [Instr.row, OpcodeRow.covers, encode, mask_F000]; rfl, by
    rw [wellFormedWord_eq]; simp [encode]⟩

theorem RowMatch.sneImm (x : Nibble) (nn : Byte) : RowMatch.Statement (.sneImm x nn) := ⟨by
    simp [Instr.row, OpcodeRow.covers, encode, mask_F000]; rfl, by
    rw [wellFormedWord_eq]; simp [encode]⟩

theorem RowMatch.seReg (x y : Nibble) : RowMatch.Statement (.seReg x y) := ⟨by
    simp [Instr.row, OpcodeRow.covers, encode, mask_F00F]; rfl, by
    rw [wellFormedWord_eq]; simp [encode]⟩

theorem RowMatch.ldImm (x : Nibble) (nn : Byte) : RowMatch.Statement (.ldImm x nn) := ⟨by
    simp [Instr.row, OpcodeRow.covers, encode, mask_F000]; rfl, by
    rw [wellFormedWord_eq]; simp [encode]⟩

theorem RowMatch.addImm (x : Nibble) (nn : Byte) : RowMatch.Statement (.addImm x nn) := ⟨by
    simp [Instr.row, OpcodeRow.covers, encode, mask_F000]; rfl, by
    rw [wellFormedWord_eq]; simp [encode]⟩

theorem RowMatch.ldReg (x y : Nibble) : RowMatch.Statement (.ldReg x y) := ⟨by
    simp [Instr.row, OpcodeRow.covers, encode, mask_F00F]; rfl, by
    rw [wellFormedWord_eq]; simp [encode]⟩

theorem RowMatch.or (x y : Nibble) : RowMatch.Statement (.or x y) := ⟨by
    simp [Instr.row, OpcodeRow.covers, encode, mask_F00F]; rfl, by
    rw [wellFormedWord_eq]; simp [encode]⟩

theorem RowMatch.and (x y : Nibble) : RowMatch.Statement (.and x y) := ⟨by
    simp [Instr.row, OpcodeRow.covers, encode, mask_F00F]; rfl, by
    rw [wellFormedWord_eq]; simp [encode]⟩

theorem RowMatch.xor (x y : Nibble) : RowMatch.Statement (.xor x y) := ⟨by
    simp [Instr.row, OpcodeRow.covers, encode, mask_F00F]; rfl, by
    rw [wellFormedWord_eq]; simp [encode]⟩

theorem RowMatch.addReg (x y : Nibble) : RowMatch.Statement (.addReg x y) := ⟨by
    simp [Instr.row, OpcodeRow.covers, encode, mask_F00F]; rfl, by
    rw [wellFormedWord_eq]; simp [encode]⟩

theorem RowMatch.sub (x y : Nibble) : RowMatch.Statement (.sub x y) := ⟨by
    simp [Instr.row, OpcodeRow.covers, encode, mask_F00F]; rfl, by
    rw [wellFormedWord_eq]; simp [encode]⟩

theorem RowMatch.shr (x y : Nibble) : RowMatch.Statement (.shr x y) := ⟨by
    simp [Instr.row, OpcodeRow.covers, encode, mask_F00F]; rfl, by
    rw [wellFormedWord_eq]; simp [encode]⟩

theorem RowMatch.subn (x y : Nibble) : RowMatch.Statement (.subn x y) := ⟨by
    simp [Instr.row, OpcodeRow.covers, encode, mask_F00F]; rfl, by
    rw [wellFormedWord_eq]; simp [encode]⟩

theorem RowMatch.shl (x y : Nibble) : RowMatch.Statement (.shl x y) := ⟨by
    simp [Instr.row, OpcodeRow.covers, encode, mask_F00F]; rfl, by
    rw [wellFormedWord_eq]; simp [encode]⟩

theorem RowMatch.sneReg (x y : Nibble) : RowMatch.Statement (.sneReg x y) := ⟨by
    simp [Instr.row, OpcodeRow.covers, encode, mask_F00F]; rfl, by
    rw [wellFormedWord_eq]; simp [encode]⟩

theorem RowMatch.ldI (nnn : Addr12) : RowMatch.Statement (.ldI nnn) := ⟨by
    simp [Instr.row, OpcodeRow.covers, encode, mask_F000]; rfl, by
    rw [wellFormedWord_eq]; simp [encode]⟩

theorem RowMatch.jpV0 (nnn : Addr12) : RowMatch.Statement (.jpV0 nnn) := ⟨by
    simp [Instr.row, OpcodeRow.covers, encode, mask_F000]; rfl, by
    rw [wellFormedWord_eq]; simp [encode]⟩

theorem RowMatch.rnd (x : Nibble) (nn : Byte) : RowMatch.Statement (.rnd x nn) := ⟨by
    simp [Instr.row, OpcodeRow.covers, encode, mask_F000]; rfl, by
    rw [wellFormedWord_eq]; simp [encode]⟩

theorem RowMatch.drw (x y n : Nibble) : RowMatch.Statement (.drw x y n) := ⟨by
    simp [Instr.row, OpcodeRow.covers, encode, mask_F000]; rfl, by
    rw [wellFormedWord_eq]; simp [encode]⟩

theorem RowMatch.skp (x : Nibble) : RowMatch.Statement (.skp x) := ⟨by
    simp [Instr.row, OpcodeRow.covers, encode, mask_F0FF]; rfl, by
    rw [wellFormedWord_eq]; simp [encode]⟩

theorem RowMatch.sknp (x : Nibble) : RowMatch.Statement (.sknp x) := ⟨by
    simp [Instr.row, OpcodeRow.covers, encode, mask_F0FF]; rfl, by
    rw [wellFormedWord_eq]; simp [encode]⟩

theorem RowMatch.ldVxDt (x : Nibble) : RowMatch.Statement (.ldVxDt x) := ⟨by
    simp [Instr.row, OpcodeRow.covers, encode, mask_F0FF]; rfl, by
    rw [wellFormedWord_eq]; simp [encode]⟩

theorem RowMatch.ldVxK (x : Nibble) : RowMatch.Statement (.ldVxK x) := ⟨by
    simp [Instr.row, OpcodeRow.covers, encode, mask_F0FF]; rfl, by
    rw [wellFormedWord_eq]; simp [encode]⟩

theorem RowMatch.ldDtVx (x : Nibble) : RowMatch.Statement (.ldDtVx x) := ⟨by
    simp [Instr.row, OpcodeRow.covers, encode, mask_F0FF]; rfl, by
    rw [wellFormedWord_eq]; simp [encode]⟩

theorem RowMatch.ldStVx (x : Nibble) : RowMatch.Statement (.ldStVx x) := ⟨by
    simp [Instr.row, OpcodeRow.covers, encode, mask_F0FF]; rfl, by
    rw [wellFormedWord_eq]; simp [encode]⟩

theorem RowMatch.addIVx (x : Nibble) : RowMatch.Statement (.addIVx x) := ⟨by
    simp [Instr.row, OpcodeRow.covers, encode, mask_F0FF]; rfl, by
    rw [wellFormedWord_eq]; simp [encode]⟩

theorem RowMatch.ldFVx (x : Nibble) : RowMatch.Statement (.ldFVx x) := ⟨by
    simp [Instr.row, OpcodeRow.covers, encode, mask_F0FF]; rfl, by
    rw [wellFormedWord_eq]; simp [encode]⟩

theorem RowMatch.ldBVx (x : Nibble) : RowMatch.Statement (.ldBVx x) := ⟨by
    simp [Instr.row, OpcodeRow.covers, encode, mask_F0FF]; rfl, by
    rw [wellFormedWord_eq]; simp [encode]⟩

theorem RowMatch.ldMemVx (x : Nibble) : RowMatch.Statement (.ldMemVx x) := ⟨by
    simp [Instr.row, OpcodeRow.covers, encode, mask_F0FF]; rfl, by
    rw [wellFormedWord_eq]; simp [encode]⟩

theorem RowMatch.ldVxMem (x : Nibble) : RowMatch.Statement (.ldVxMem x) := ⟨by
    simp [Instr.row, OpcodeRow.covers, encode, mask_F0FF]; rfl, by
    rw [wellFormedWord_eq]; simp [encode]⟩

end Sys2Proof.Laws
end

