-- ==== Sys2Proof/Machine/Assembly.lean ====
section
/-! DEFINITION. The assembler spelling of the instructions (30_encoding R98), and the listing of a word.
No rule of the machine reads it. -/

namespace Sys2Proof.Machine

/-- One hex digit, as in `VF`. -/
def hexDigit (d : Nibble) : String :=
  ["0", "1", "2", "3", "4", "5", "6", "7", "8", "9", "A", "B", "C", "D", "E", "F"].getD d.toNat ""

/-- A register, `V0` to `VF`. -/
def regName (x : Nibble) : String := "V" ++ hexDigit x

/-- A 4-bit immediate in hex. -/
def hex4 (n : Nibble) : String := "0x" ++ hexDigit n

/-- A byte immediate in hex. -/
def hex8 (nn : Byte) : String := "0x" ++ hexDigit (nn.extractLsb' 4 4) ++ hexDigit (nn.extractLsb' 0 4)

/-- An address immediate in hex. -/
def hex12 (nnn : Addr12) : String :=
  "0x" ++ hexDigit (nnn.extractLsb' 8 4) ++ hexDigit (nnn.extractLsb' 4 4) ++
    hexDigit (nnn.extractLsb' 0 4)

/-- A word in hex. -/
def hex16 (w : Word) : String :=
  "0x" ++ hexDigit (w.extractLsb' 12 4) ++ hexDigit (w.extractLsb' 8 4) ++
    hexDigit (w.extractLsb' 4 4) ++ hexDigit (w.extractLsb' 0 4)

/-- A mnemonic with two operands. -/
def spellTwo (m a b : String) : String := m ++ " " ++ a ++ ", " ++ b

/-- The spelling of an instruction (30_encoding R98). -/
def assembly : Instr → String
  | .cls => "CLS"
  | .ret => "RET"
  | .jp nnn => "JP " ++ hex12 nnn
  | .call nnn => "CALL " ++ hex12 nnn
  | .seImm x nn => spellTwo "SE" (regName x) (hex8 nn)
  | .sneImm x nn => spellTwo "SNE" (regName x) (hex8 nn)
  | .seReg x y => spellTwo "SE" (regName x) (regName y)
  | .ldImm x nn => spellTwo "LD" (regName x) (hex8 nn)
  | .addImm x nn => spellTwo "ADD" (regName x) (hex8 nn)
  | .ldReg x y => spellTwo "LD" (regName x) (regName y)
  | .or x y => spellTwo "OR" (regName x) (regName y)
  | .and x y => spellTwo "AND" (regName x) (regName y)
  | .xor x y => spellTwo "XOR" (regName x) (regName y)
  | .addReg x y => spellTwo "ADD" (regName x) (regName y)
  | .sub x y => spellTwo "SUB" (regName x) (regName y)
  | .shr x y => spellTwo "SHR" (regName x) (regName y)
  | .subn x y => spellTwo "SUBN" (regName x) (regName y)
  | .shl x y => spellTwo "SHL" (regName x) (regName y)
  | .sneReg x y => spellTwo "SNE" (regName x) (regName y)
  | .ldI nnn => spellTwo "LD" "I" (hex12 nnn)
  | .jpV0 nnn => spellTwo "JP" "V0" (hex12 nnn)
  | .rnd x nn => spellTwo "RND" (regName x) (hex8 nn)
  | .drw x y n => spellTwo "DRW" (regName x) (regName y) ++ ", " ++ hex4 n
  | .skp x => "SKP " ++ regName x
  | .sknp x => "SKNP " ++ regName x
  | .ldVxDt x => spellTwo "LD" (regName x) "DT"
  | .ldVxK x => spellTwo "LD" (regName x) "K"
  | .ldDtVx x => spellTwo "LD" "DT" (regName x)
  | .ldStVx x => spellTwo "LD" "ST" (regName x)
  | .addIVx x => spellTwo "ADD" "I" (regName x)
  | .ldFVx x => spellTwo "LD" "F" (regName x)
  | .ldBVx x => spellTwo "LD" "B" (regName x)
  | .ldMemVx x => spellTwo "LD" "[I]" (regName x)
  | .ldVxMem x => spellTwo "LD" (regName x) "[I]"

/-- The listing of a word: its instruction, or a data word (30_encoding R98). -/
def listing (op : Word) : String :=
  match decode op with
  | .ok i => assembly i
  | .error _ => "DW " ++ hex16 op

end Sys2Proof.Machine
end

