-- ==== Sys2Proof/Tests/Slice0.lean ====
section
/-! SUPPORT. The model's own tests: ill-formed words, words written out from the spec's encodings, one
step per case from the spec's vectors (95_test_vectors) and rule examples, and a witness for every
statement that has hypotheses. Expected results are the spec's. -/

namespace Sys2Proof.Tests

open Sys2Proof.Machine

-- ==== helpers ====

/-- Whether a result is a next state that passes a check. -/
def passes (r : Result) (p : State → Bool) : Bool :=
  match r with
  | .next t => p t
  | .fault _ => false
  | .refused _ => false

/-- One step of the word `op`, placed at PC, from `s`, passes a check. -/
def stepOf (op : Nat) (s : State) (p : State → Bool) : Bool := passes (step (s.withFetchWord 16 op)) p

/-- Reset with V1 and V2 set. -/
def regs12 (a b : Byte) : State := (State.reset.setReg 1 a).setReg 2 b

/-- Reset with I set. -/
def atI (a : Word) : State := State.reset.setI a

/-- A state with a quirk register. -/
def withQ (q : Quirks) (s : State) : State := s.setQuirks q

/-- The machine whose `OOB_POLICY` is `fault`. -/
def strict (s : State) : State := { s with oobPolicy := .fault }

-- ==== well-formed words: an ill-formed word for each check (30_encoding R95) ====

theorem test_group0_refuses : wellFormedWord 0x00E1 = false ∧ wellFormedWord 0x0123 = false := by decide
theorem test_group5_refuses : wellFormedWord 0x5121 = false := by decide
theorem test_group8_refuses : wellFormedWord 0x8008 = false ∧ wellFormedWord 0x800F = false := by decide
theorem test_group9_refuses : wellFormedWord 0x912F = false := by decide
theorem test_groupE_refuses : wellFormedWord 0xE09F = false := by decide
theorem test_groupF_refuses : wellFormedWord 0xF166 = false := by decide

-- ==== decoding: a word of every constructor, from 30_encoding R82 and R86 ====

theorem test_decode_control :
    decode 0b0000000011101110 = .ok .ret ∧ decode 0b0001001000110100 = .ok (.jp 0x234) ∧
    decode 0b0010001000010000 = .ok (.call 0x210) ∧ decode 0b0011111100000101 = .ok (.seImm 0xF 5) ∧
    decode 0b0100001100000000 = .ok (.sneImm 3 0) ∧ decode 0b0101000100100000 = .ok (.seReg 1 2) ∧
    decode 0b1001000100100000 = .ok (.sneReg 1 2) ∧ decode 0b1011001100000000 = .ok (.jpV0 0x300) := by
  decide

theorem test_decode_alu :
    decode 0b0110101001000010 = .ok (.ldImm 0xA 0x42) ∧
    decode 0b0111000100000010 = .ok (.addImm 1 2) ∧ decode 0b1000000100100000 = .ok (.ldReg 1 2) ∧
    decode 0b1000000100100001 = .ok (.or 1 2) ∧ decode 0b1000000100100010 = .ok (.and 1 2) ∧
    decode 0b1000000100100011 = .ok (.xor 1 2) ∧ decode 0b1000000100100100 = .ok (.addReg 1 2) ∧
    decode 0b1000000100100101 = .ok (.sub 1 2) ∧ decode 0b1000000100100110 = .ok (.shr 1 2) ∧
    decode 0b1000000100100111 = .ok (.subn 1 2) ∧ decode 0b1000111111111110 = .ok (.shl 0xF 0xF) ∧
    decode 0b1100001100001111 = .ok (.rnd 3 0x0F) := by decide

theorem test_decode_index :
    decode 0b1010000100100011 = .ok (.ldI 0x123) ∧ decode 0b1111001000011110 = .ok (.addIVx 2) ∧
    decode 0b1111000100101001 = .ok (.ldFVx 1) ∧ decode 0b1111000100110011 = .ok (.ldBVx 1) ∧
    decode 0b1111001001010101 = .ok (.ldMemVx 2) ∧ decode 0b1111001001100101 = .ok (.ldVxMem 2) := by
  decide

theorem test_decode_display :
    decode 0b0000000011100000 = .ok .cls ∧ decode 0b1101000000010101 = .ok (.drw 0 1 5) := by decide

theorem test_decode_keys_timers :
    decode 0b1110000110011110 = .ok (.skp 1) ∧ decode 0b1110111110100001 = .ok (.sknp 0xF) ∧
    decode 0b1111010000000111 = .ok (.ldVxDt 4) ∧ decode 0b1111001100001010 = .ok (.ldVxK 3) ∧
    decode 0b1111110000010101 = .ok (.ldDtVx 0xC) ∧ decode 0b1111001000011000 = .ok (.ldStVx 2) := by
  decide

/-- 95_test_vectors V2.1. -/
theorem test_decode_unknown :
    decode 0x0000 = .error (.unknownOpcode 0x0000) ∧ decode 0x0FFF = .error (.unknownOpcode 0x0FFF) ∧
    decode 0x800D = .error (.unknownOpcode 0x800D) ∧ decode 0xE000 = .error (.unknownOpcode 0xE000) ∧
    decode 0xF008 = .error (.unknownOpcode 0xF008) ∧ decode 0xFFFF = .error (.unknownOpcode 0xFFFF) := by
  decide

theorem test_decode_truncated : decodeBytes [0x60] = .error .truncated := by decide

theorem test_decode_bytes : decodeBytes [0x61, 0x2A, 0x00] = .ok (.ldImm 1 0x2A, [0x00]) := by decide

theorem test_table_has_34_rows : opcodeRows.length = 34 := by decide

/-- 30_encoding R98. -/
theorem test_listing :
    listing 0xF255 = "LD [I], V2" ∧ listing 0xD125 = "DRW V1, V2, 0x5" ∧
    listing 0x5121 = "DW 0x5121" := by decide

-- ==== the execution cycle (95_test_vectors V2.2) ====

theorem test_big_endian_fetch : stepOf 0x612A State.reset (fun t => t.reg 1 == 0x2A && t.pc == 0x202) := by
  decide
theorem test_unknown_report : stepReport (State.reset.withFetchWord 16 0x5121) = .unknownOpcode 0x5121 0x200 := by
  decide
theorem test_fetch_wraps : stepOf 0x60F0 (State.reset.setPc 0xFFF) (fun t => t.reg 0 == 0xF0 && t.pc == 0x1001) := by
  decide
theorem test_pc_wraps : stepOf 0x00E0 (State.reset.setPc 0xFFFE) (fun t => t.pc == 0) := by decide
theorem test_fetch_fault :
    stepReport (strict (State.reset.setPc 0xFFF)) = .fault .addressFault 0 0xFFF := by decide

-- ==== control transfer (V2.3) ====

theorem test_jp : stepOf 0x1234 State.reset (fun t => t.pc == 0x234) := by decide
theorem test_call : stepOf 0x2210 (State.reset.setPc 0x206)
    (fun t => t.stack[0] == 0x208 && t.sp == 1 && t.pc == 0x210) := by decide
theorem test_call_overflow : stepOf 0x2210 ((State.reset.setPc 0x206).setSp 16)
    (fun t => t.pc == 0x206 && t.sp == 16 && t.fault == some .stackOverflow && t.faultOp == 0x2210 &&
      t.faultPc == 0x206) := by decide
theorem test_ret : stepOf 0x00EE ((State.reset.setSp 1).setStack 0 0x208 (by decide))
    (fun t => t.sp == 0 && t.pc == 0x208 && t.stack[0] == 0x208) := by decide
theorem test_ret_underflow : stepOf 0x00EE (State.reset.setPc 0x20A)
    (fun t => t.pc == 0x20A && t.fault == some .stackUnderflow && t.faultOp == 0x00EE &&
      t.faultPc == 0x20A) := by decide
theorem test_seImm : stepOf 0x3300 (State.reset.setPc 0x208) (fun t => t.pc == 0x20C) := by decide
theorem test_seImm_no_skip : stepOf 0x3301 (State.reset.setPc 0x208) (fun t => t.pc == 0x20A) := by decide
theorem test_sneImm : stepOf 0x4300 ((State.reset.setPc 0x208).setReg 3 1) (fun t => t.pc == 0x20C) := by
  decide
theorem test_sneImm_no_skip : stepOf 0x4300 (State.reset.setPc 0x208) (fun t => t.pc == 0x20A) := by decide
theorem test_seReg : stepOf 0x5120 (regs12 0x42 0x42) (fun t => t.pc == 0x204) := by decide
theorem test_sneReg : stepOf 0x9120 (regs12 0x42 0x43) (fun t => t.pc == 0x204) := by decide
theorem test_sneReg_same : stepOf 0x9110 (regs12 0x42 0x43) (fun t => t.pc == 0x202) := by decide
theorem test_jpV0 : stepOf 0xBFFF (State.reset.setReg 0 0xFF) (fun t => t.pc == 0x10FE) := by decide

-- ==== ALU (V2.4) ====

theorem test_ldImm_vf : stepOf 0x6F07 State.reset (fun t => t.reg 0xF == 7) := by decide
theorem test_addImm_no_carry : stepOf 0x7AFF (State.reset.setReg 0xA 1) (fun t => t.reg 0xA == 0 && t.reg 0xF == 0) := by
  decide
theorem test_ldReg : stepOf 0x8120 ((regs12 0x11 0x22).setReg 0xF 5) (fun t => t.reg 1 == 0x22 && t.reg 0xF == 5) := by
  decide
theorem test_or : stepOf 0x8121 ((regs12 0xF0 0x0F).setReg 0xF 5) (fun t => t.reg 1 == 0xFF && t.reg 0xF == 5) := by
  decide
theorem test_or_quirk_last : stepOf 0x8F21
    (withQ ⟨false, false, true, false, true⟩ ((State.reset.setReg 0xF 0x0F).setReg 2 0xF0))
    (fun t => t.reg 0xF == 0) := by decide
theorem test_and : stepOf 0x8122 ((regs12 0xF0 0x3C).setReg 0xF 5) (fun t => t.reg 1 == 0x30 && t.reg 0xF == 5) := by
  decide
theorem test_xor_quirk : stepOf 0x8123
    (withQ ⟨false, false, true, false, true⟩ ((regs12 0xFF 0x0F).setReg 0xF 5))
    (fun t => t.reg 1 == 0xF0 && t.reg 0xF == 0) := by decide
theorem test_addReg_carry_last : stepOf 0x8F14 ((State.reset.setReg 0xF 0x10).setReg 1 0xF0) (fun t => t.reg 0xF == 1) := by
  decide
theorem test_addReg_reads_old_vf : stepOf 0x81F4 ((State.reset.setReg 1 1).setReg 0xF 2)
    (fun t => t.reg 1 == 3 && t.reg 0xF == 0) := by decide
theorem test_sub_borrow : stepOf 0x8125 (regs12 3 5) (fun t => t.reg 1 == 0xFE && t.reg 0xF == 0) := by decide
theorem test_sub_equal : stepOf 0x8125 (regs12 7 7) (fun t => t.reg 1 == 0 && t.reg 0xF == 1) := by decide
theorem test_shr_quirk : stepOf 0x8126 (withQ ⟨true, false, false, false, true⟩ (regs12 0 3))
    (fun t => t.reg 1 == 1 && t.reg 0xF == 1) := by decide
theorem test_shr : stepOf 0x8126 (regs12 0 3) (fun t => t.reg 1 == 0 && t.reg 0xF == 0) := by decide
theorem test_subn : stepOf 0x8127 ((regs12 5 3).setReg 0xF 1) (fun t => t.reg 1 == 0xFE && t.reg 0xF == 0) := by
  decide
theorem test_shl : stepOf 0x812E (regs12 0x81 0) (fun t => t.reg 1 == 2 && t.reg 0xF == 1) := by decide
theorem test_shl_quirk : stepOf 0x812E (withQ ⟨true, false, false, false, true⟩ (regs12 0 0x81))
    (fun t => t.reg 1 == 2 && t.reg 0xF == 1) := by decide
theorem test_rnd_draw_is_used_up : stepOf 0xC3FF State.reset (fun t => t.drawCount == 1 && t.pc == 0x202) := by
  decide

-- ==== index and memory (V2.5) ====

theorem test_ldI : stepOf 0xA123 State.reset (fun t => t.i == 0x123) := by decide
theorem test_addI_threshold : stepOf 0xF21E ((atI 0xFFF).setReg 2 1) (fun t => t.i == 0x1000 && t.reg 0xF == 1) := by
  decide
theorem test_addI_vf : stepOf 0xFF1E ((atI 0x100).setReg 0xF 0x20) (fun t => t.i == 0x120 && t.reg 0xF == 0) := by
  decide
theorem test_ldF_not_masked : stepOf 0xF129 (State.reset.setReg 1 0xFF) (fun t => t.i == 0x4FB) := by decide
theorem test_bcd : stepOf 0xF133 ((atI 0x300).setReg 1 254)
    (fun t => t.readByte 0x300 == 2 && t.readByte 0x301 == 5 && t.readByte 0x302 == 4 && t.i == 0x300) := by
  decide
theorem test_bcd_wraps : stepOf 0xF133 ((atI 0xFFF).setReg 1 123)
    (fun t => t.readByte 0xFFF == 1 && t.readByte 0 == 2 && t.readByte 1 == 3) := by decide
theorem test_block_store_wraps : stepOf 0xF255 (((atI 0xFFE).setReg 0 0xAA).setReg 2 0xCC)
    (fun t => t.readByte 0xFFE == 0xAA && t.readByte 0xFFF == 0 && t.readByte 0 == 0xCC && t.i == 0xFFE) := by
  decide
theorem test_block_store_quirk : stepOf 0xF055
    (withQ ⟨false, true, false, false, true⟩ ((atI 0x400).setReg 0 0x77))
    (fun t => t.readByte 0x400 == 0x77 && t.i == 0x401) := by decide
theorem test_block_load_font : stepOf 0xFF65 State.reset
    (fun t => t.reg 0 == 0xF0 && t.reg 5 == 0x20 && t.reg 0xB == 0x10 && t.reg 0xF == 0xF0) := by decide
theorem test_block_load_quirk : stepOf 0xF265 (withQ ⟨false, true, false, false, true⟩ (atI 0))
    (fun t => t.reg 2 == 0x90 && t.reg 3 == 0 && t.i == 3) := by decide
theorem test_data_fault : stepOf 0xF033 (strict (atI 0xFFE))
    (fun t => t.fault == some .addressFault && t.faultOp == 0xF033 && t.pc == 0x200 && t.readByte 0xFFE == 0) := by
  decide
theorem test_data_in_range : stepOf 0xF155 (strict ((atI 0xFFE).setReg 1 7))
    (fun t => t.fault == none && t.readByte 0xFFF == 7) := by decide

-- ==== display (V2.6, V1.8) ====

/-- Reset with the sprite byte FF at 0x300, I there, V0 = 60 and V1 = 0. -/
def edge : State := ((atI 0x300).setReg 0 60).writeByte 0x300 0xFF

theorem test_draw_clips : stepOf 0xD011 edge
    (fun t => t.pixel 60 0 && t.pixel 63 0 && !t.pixel 0 0 && t.reg 0xF == 0) := by decide
theorem test_draw_wraps : stepOf 0xD011 (withQ ⟨false, false, false, true, true⟩ edge)
    (fun t => t.pixel 60 0 && t.pixel 0 0 && t.pixel 3 0 && !t.pixel 4 0) := by decide
theorem test_draw_collides : stepOf 0xD011 ((edge.setReg 0 0).setPix (Screen.blank.setPixel 1 0 true))
    (fun t => t.pixel 0 0 && !t.pixel 1 0 && t.reg 0xF == 1) := by decide
theorem test_draw_reads_vf_first : stepOf 0xDFF1 (edge.setReg 0xF 3)
    (fun t => t.pixel 3 3 && !t.pixel 2 3 && t.reg 0xF == 0) := by decide
theorem test_draw_fault : stepOf 0xD012 (strict ((atI 0xFFF).setReg 0xF 9))
    (fun t => t.fault == some .addressFault && t.faultOp == 0xD012 && t.reg 0xF == 9) := by decide
theorem test_cls : stepOf 0x00E0 (State.reset.setPix (Screen.blank.setPixel 5 6 true)) (fun t => !t.pixel 5 6) := by
  decide
theorem test_read_pixel_refused : State.reset.readPixel 64 0 = none ∧ State.reset.readPixel 63 31 = some false := by
  decide

-- ==== keys and timers (V2.7, V2.8) ====

theorem test_skp : stepOf 0xE19E ((State.reset.setReg 1 7).setKeys 0x80) (fun t => t.pc == 0x204) := by decide
theorem test_skp_key16 : stepOf 0xE19E ((State.reset.setReg 1 0x10).setKeys 0xFFFF) (fun t => t.pc == 0x202) := by
  decide
theorem test_sknp : stepOf 0xE1A1 ((State.reset.setReg 1 7).setKeys 0x80) (fun t => t.pc == 0x202) := by decide
theorem test_sknp_key255 : stepOf 0xE1A1 ((State.reset.setReg 1 0xFF).setKeys 0xFFFF) (fun t => t.pc == 0x204) := by
  decide
theorem test_ldVxDt : stepOf 0xFF07 (State.reset.setDt 9) (fun t => t.reg 0xF == 9 && t.dt == 9) := by decide
theorem test_ldDtVx : stepOf 0xFC15 (State.reset.setReg 0xC 3) (fun t => t.dt == 3 && t.st == 0) := by decide
theorem test_ldStVx : stepOf 0xF218 (State.reset.setReg 2 0x10) (fun t => t.st == 0x10 && t.soundActive) := by
  decide
theorem test_ldVxK : stepOf 0xF30A (State.reset.setPc 0x210)
    (fun t => t.runState == .waitingForKey 3 && t.pc == 0x212 && t.reg 3 == 0) := by decide
theorem test_key_up_resolves : ((State.reset.setKeys 0x90).startWait 3).keyUp 4 =
    (((State.reset.setKeys 0x80).startWait 3).setReg 3 4).endWait := by decide
theorem test_tick : ((State.reset.setDt 255).setSt 0).tick = (State.reset.setDt 254).setSt 0 := by decide

-- ==== reset, load, restore (V2.10) ====

theorem test_init_is_reset : (State.reset.setPc 0x300).init defaultFont none = State.reset := by decide
theorem test_default_font : defaultFont.toList = Config.font := by decide
theorem test_load_rom : (State.reset.loadRom [0x12, 0x00]).mem = [(0x200, 0x12)] := by decide
theorem test_restore_rejects_sp17 : State.reset.admits (State.reset.setSp 17) = false := by decide
theorem test_restore_rejects_wait_and_fault :
    State.reset.admits ((State.reset.startWait 1).enterFault .stackOverflow 0 0) = false := by decide


-- ==== witnesses: states and operands that meet the hypotheses of a statement, all of them together ====

/-- Reset with a word placed where the next step fetches it. -/
def loaded (op : Nat) : State := State.reset.withFetchWord 16 op

/-- A state in the key wait. -/
def waiting : State := State.reset.startWait 3

/-- A faulted state. -/
def faulted : State := (State.reset.setSp 16).enterFault .stackOverflow 0x2210 0x200

theorem witness_DecodedWordIsItsEncoding : decode 0xFF65 = .ok (.ldVxMem 0xF) := by decide

theorem witness_DecodeFollowsOpcodeTable :
    decode 0xFF65 = .ok (.ldVxMem 0xF) ∧ decode 0xFF66 = .error (.unknownOpcode 0xFF66) := by decide

/-- The word at 0x200, and the last word below a wrap under `wrap` (PC = 0xFFF). -/
theorem witness_StepRunsDecodedInstruction :
    (∃ t, Fetches (loaded 0x612A) ∧
      decode (wordOfBytes ((loaded 0x612A).readByte (loaded 0x612A).pc.toNat)
        ((loaded 0x612A).readByte ((loaded 0x612A).pc.toNat + 1))) = .ok (.ldImm 1 0x2A) ∧
      exec (.ldImm 1 0x2A) ((loaded 0x612A).setPc ((loaded 0x612A).pc + 2)) = .next t ∧
      t.fault = none) ∧
    Fetches ((State.reset.setPc 0xFFF).withFetchWord 16 0x60F0) :=
  ⟨⟨_, ⟨by decide, by decide⟩, by decide, rfl, by decide⟩, by decide, by decide⟩

theorem witness_GatedStepDoesNothing :
    waiting.runState ≠ .running ∧ faulted.runState ≠ .running := by decide

theorem witness_UnknownOpcodeIsReportedAndSkipped :
    Fetches State.reset ∧
    decode (wordOfBytes (State.reset.readByte State.reset.pc.toNat)
      (State.reset.readByte (State.reset.pc.toNat + 1))) = .error (.unknownOpcode 0) :=
  ⟨⟨by decide, by decide⟩, by decide⟩

/-- Both sides of the limit 0x0FFF, and the highest PC under `wrap`. -/
theorem witness_FetchFaultsOnlyUnderFaultPolicy :
    ((strict (State.reset.setPc 0xFFF)).runState = .running ∧
      (strict (State.reset.setPc 0xFFF)).oobPolicy = .fault ∧
      0x0FFF ≤ (strict (State.reset.setPc 0xFFF)).pc.toNat) ∧
    ((strict (State.reset.setPc 0xFFE)).runState = .running ∧
      ¬0x0FFF ≤ (strict (State.reset.setPc 0xFFE)).pc.toNat) ∧
    ((State.reset.setPc 0xFFFF).runState = .running ∧
      (State.reset.setPc 0xFFFF).oobPolicy ≠ .fault) := by decide

/-- A fault of the body and a fault of the fetch. -/
theorem witness_FaultEntryIsPrecise :
    (∃ t, (loaded 0x00EE).runState = .running ∧ step (loaded 0x00EE) = .next t ∧
      t.fault = some .stackUnderflow) ∧
    (∃ t, (strict (State.reset.setPc 0xFFF)).runState = .running ∧
      step (strict (State.reset.setPc 0xFFF)) = .next t ∧ t.fault = some .addressFault) :=
  ⟨⟨_, by decide, rfl, rfl⟩, ⟨_, by decide, rfl, rfl⟩⟩

/-- SP = 0; and SP = 1 and 16, the ends of the range that pops. -/
theorem witness_RetPopsOrUnderflows :
    State.reset.sp.toNat = 0 ∧
    (0 < (State.reset.setSp 1).sp.toNat ∧ (State.reset.setSp 1).sp.toNat ≤ 16) ∧
    (0 < (State.reset.setSp 16).sp.toNat ∧ (State.reset.setSp 16).sp.toNat ≤ 16) := by decide

/-- SP = 16; and SP = 0 and 15, the ends of the range that pushes. -/
theorem witness_CallPushesOrOverflows :
    (State.reset.setSp 16).sp.toNat = 16 ∧ State.reset.sp.toNat < 16 ∧
    (State.reset.setSp 15).sp.toNat < 16 := by decide

theorem witness_StackAccessBeyondDepthStops :
    16 < (State.reset.setSp 17).sp.toNat ∧ 16 < (State.reset.setSp 31).sp.toNat := by decide

/-- Key 15 held, the last key; and an index of 16, which names none. -/
theorem witness_KeySkips :
    ((State.reset.setReg 1 15).reg 1).toNat < 16 ∧
    ((State.reset.setReg 1 15).setKeys 0x8000).keys.getLsbD
      (((State.reset.setReg 1 15).setKeys 0x8000).reg 1).toNat = true ∧
    ¬((State.reset.setReg 1 16).reg 1).toNat < 16 := by decide

/-- Both settings of the quirk. -/
theorem witness_ShiftsCaptureTheShiftedOutBit :
    (3 : Byte) = (if (withQ ⟨true, false, false, false, true⟩ (regs12 0 3)).quirks.shiftUsesVy
      then (withQ ⟨true, false, false, false, true⟩ (regs12 0 3)).reg 2
      else (withQ ⟨true, false, false, false, true⟩ (regs12 0 3)).reg 1) ∧
    (0 : Byte) = (if (regs12 0 3).quirks.shiftUsesVy then (regs12 0 3).reg 2
      else (regs12 0 3).reg 1) := by decide

theorem witness_RandomByteUnderMask : (0 : Byte) = 0 ∧ (0xFF : Byte) = 0xFF := ⟨rfl, rfl⟩

/-- An add that carries, a logic operation and an FX1E under their quirk. -/
theorem witness_FlagIsAlwaysOverwritten :
    (∃ t, Instr.addReg 1 2 ∈
        [Instr.addReg 1 2, .sub 1 2, .shr 1 2, .subn 1 2, .shl 1 2, .drw 1 2 0] ∧
      exec (.addReg 1 2) (regs12 0xFF 1) = .next t ∧ (regs12 0xFF 1).fault = none ∧
      t.fault = none) ∧
    (∃ t, (withQ ⟨false, false, true, false, true⟩ (regs12 5 6)).quirks.logicOpsResetVf = true ∧
      exec (.xor 1 2) (withQ ⟨false, false, true, false, true⟩ (regs12 5 6)) = .next t ∧
      t.fault = none) ∧
    (∃ t, (regs12 5 6).quirks.fx1eSetsVf = true ∧ exec (.addIVx 1) (regs12 5 6) = .next t ∧
      t.fault = none) :=
  ⟨⟨_, by decide, rfl, rfl, rfl⟩, ⟨_, rfl, rfl, rfl⟩, ⟨_, rfl, rfl, rfl⟩⟩

/-- The last I whose three bytes fit, and the next one. -/
theorem witness_BcdStoresThreeDigits :
    Memory.wf (strict (atI 0xFFD)).mem = true ∧ InRange (strict (atI 0xFFD)) 3 ∧
    Memory.wf (strict (atI 0xFFE)).mem = true ∧ ¬InRange (strict (atI 0xFFE)) 3 ∧
    InRange (atI 0xFFFF) 3 := by unfold InRange; decide

/-- x = 0 at the last address; x = 15 at the last I that fits and at the next one. -/
theorem witness_BlockStoreWritesRegisters :
    Memory.wf (strict (atI 0xFFF)).mem = true ∧
    InRange (strict (atI 0xFFF)) ((0 : Nibble).toNat + 1) ∧
    InRange (strict (atI 0xFF0)) ((15 : Nibble).toNat + 1) ∧
    Memory.wf (strict (atI 0xFF1)).mem = true ∧
    ¬InRange (strict (atI 0xFF1)) ((15 : Nibble).toNat + 1) := by unfold InRange; decide

theorem witness_BlockLoadReadsMemory :
    InRange (strict (atI 0xFFF)) ((0 : Nibble).toNat + 1) ∧
    ¬InRange (strict (atI 0x1000)) ((0 : Nibble).toNat + 1) ∧
    InRange (strict (atI 0xFF0)) ((15 : Nibble).toNat + 1) ∧
    ¬InRange (strict (atI 0xFF1)) ((15 : Nibble).toNat + 1) := by unfold InRange; decide

/-- The registers are cleared between the store and the load, and the bytes wrap past 0xFFF. -/
theorem witness_BlockLoadAfterBlockStore :
    ∃ t w, Memory.wf (((atI 0xFFF).setReg 0 7).setReg 1 8).mem = true ∧
      (((atI 0xFFF).setReg 0 7).setReg 1 8).fault = none ∧
      exec (.ldMemVx 1) (((atI 0xFFF).setReg 0 7).setReg 1 8) = .next t ∧ t.fault = none ∧
      ((atI 0xFFF).setMem t.mem).mem = t.mem ∧
      ((atI 0xFFF).setMem t.mem).i = (((atI 0xFFF).setReg 0 7).setReg 1 8).i ∧
      ((atI 0xFFF).setMem t.mem).oobPolicy = (((atI 0xFFF).setReg 0 7).setReg 1 8).oobPolicy ∧
      exec (.ldVxMem 1) ((atI 0xFFF).setMem t.mem) = .next w :=
  ⟨_, _, by decide, rfl, rfl, rfl, rfl, rfl, rfl, rfl⟩

/-- `F155` stored over the next instruction, and over itself. -/
theorem witness_StoredCodeIsFetched :
    (Memory.wf ((loaded 0xF155).setI 0x202).mem = true ∧ 1 ≤ (1 : Nibble).toNat ∧
      InRange ((loaded 0xF155).setI 0x202) ((1 : Nibble).toNat + 1) ∧
      Fetches ((loaded 0xF155).setI 0x202) ∧
      decode ((loaded 0xF155).setI 0x202).fetchWord = .ok (.ldMemVx 1) ∧
      ((loaded 0xF155).setI 0x202).i = ((loaded 0xF155).setI 0x202).pc + 2) ∧
    (Memory.wf ((loaded 0xF155).setI 0x200).mem = true ∧
      InRange ((loaded 0xF155).setI 0x200) ((1 : Nibble).toNat + 1) ∧
      Fetches ((loaded 0xF155).setI 0x200) ∧
      decode ((loaded 0xF155).setI 0x200).fetchWord = .ok (.ldMemVx 1) ∧
      ((loaded 0xF155).setI 0x200).i = ((loaded 0xF155).setI 0x200).pc) := by
  unfold InRange Fetches; decide

/-- In range and not in range at the limit; a row of no bytes is in range anywhere; a covered pixel that
is set; and a screen on which no covered pixel is. -/
theorem witness_DrawXorsTheSprite :
    InRange (strict (atI 0xFF1)) (15 : Nibble).toNat ∧
    ¬InRange (strict (atI 0xFF2)) (15 : Nibble).toNat ∧
    InRange (strict (atI 0xFFFF)) (0 : Nibble).toNat ∧
    (∃ c r, SpriteCovers (edge.setPix (Screen.blank.setPixel 63 0 true)) 60 0 1 c r ∧
      (edge.setPix (Screen.blank.setPixel 63 0 true)).pixel c r = true) ∧
    (∀ c r, SpriteCovers edge 60 0 1 c r → edge.pixel c r = false) ∧
    ¬SpriteCovers edge 60 0 1 59 0 := by
  refine ⟨by unfold InRange; decide, by unfold InRange; decide, by unfold InRange; decide,
    ⟨63, 0, ⟨0, by decide, 3, by decide, by decide, by decide⟩, by decide⟩, fun c r _ => ?_, ?_⟩
  · simp [edge, State.pixel, Screen.pixel, Screen.blank, State.writeByte, State.setMem,
      State.setReg, atI, State.setI, State.reset]
  · rintro ⟨k, hk, j, hj, _, h⟩
    have hq : edge.quirks.wrapSprites = false := by decide
    rw [if_neg (by simp [hq])] at h
    have := h.1
    change 59 = 60 + j at this
    omega

theorem witness_DrawTwiceRestoresTheScreen :
    ∃ t u, InRange edge (1 : Nibble).toNat ∧ exec (.drw 0 1 1) edge = .next t ∧ t.pix = t.pix ∧
      t.mem = t.mem ∧ t.i = t.i ∧ t.oobPolicy = t.oobPolicy ∧
      t.quirks.wrapSprites = t.quirks.wrapSprites ∧ t.reg 0 = edge.reg 0 ∧ t.reg 1 = edge.reg 1 ∧
      exec (.drw 0 1 1) t = .next u :=
  ⟨_, _, fun h => absurd h (by decide), rfl, rfl, rfl, rfl, rfl, rfl, by decide, by decide, rfl⟩

theorem witness_KeyWaitIsEntered : State.reset.fault = none := rfl

/-- The last key and the first index that names none. -/
theorem witness_KeyDownSetsTheKey : 15 < 16 ∧ 16 ≤ 16 := by decide

/-- While waiting for register 3, and while running and while faulted. -/
theorem witness_KeyUpReleasesAndResolves :
    16 ≤ 16 ∧ 15 < 16 ∧ waiting.runState = .waitingForKey 3 ∧
    (∀ r, State.reset.runState ≠ .waitingForKey r) ∧ (∀ r, faulted.runState ≠ .waitingForKey r) := by
  decide

theorem witness_KeyWaitRoundTrip :
    7 < 16 ∧ Fetches (loaded 0xF30A) ∧ decode (loaded 0xF30A).fetchWord = .ok (.ldVxK 3) := by
  unfold Fetches; decide

/-- The last font byte, and the ends of the range above it. -/
theorem witness_InitLeavesResetValues : 79 < 80 ∧ (80 ≤ 80 ∧ 80 < 4096) ∧ (80 ≤ 4095 ∧ 4095 < 4096) := by
  decide

/-- The largest image, empty ones, and the first that is too large. -/
theorem witness_LoadRomWritesOrRejects :
    Memory.wf State.reset.mem = true ∧ (List.replicate 3584 (0 : Byte)).length ≤ 3584 ∧
    ([] : List Byte).length ≤ 3584 ∧ 3584 < (List.replicate 3585 (0 : Byte)).length := by
  simp only [List.length_replicate]; decide

/-- SP = 16 is admitted, SP = 17 is not; nor is an AddressFault by a machine under `wrap`. -/
theorem witness_SaveAndRestore :
    State.reset.wellFormed = true ∧
    ({ (State.reset.setSp 17) with oobPolicy := State.reset.oobPolicy } : State).wellFormed = false ∧
    ({ (strict (State.reset.enterFault .addressFault 0 0)) with
      oobPolicy := State.reset.oobPolicy } : State).wellFormed = false ∧
    ({ (State.reset.setSp 16) with oobPolicy := State.reset.oobPolicy } : State).wellFormed = true := by
  decide

theorem witness_HostSetsQuirksAndClockspeed : 1 ≤ 1 := by decide

theorem witness_ObservablesReadTheState : 64 ≤ 64 ∧ (64 ≤ 0 ∨ 32 ≤ 32) ∧ faulted.st = 0 := by decide

theorem witness_StepKeepsWellFormedness : waiting.wellFormed = true ∧ faulted.wellFormed = true := by
  decide

theorem witness_TransactionsKeepWellFormedness :
    State.reset.wellFormed = true ∧ (State.reset.setSp 16).wellFormed = true := by decide

theorem witness_StopStatesAreSticky :
    Transaction.step.replacesState = false ∧ faulted.runState = .faulted .stackOverflow ∧
    waiting.runState = .waitingForKey 3 ∧ (Transaction.keyUp 16).endsWait = false ∧
    (Transaction.keyUp 16).replacesState = false := by decide

/-- Each of the three causes. -/
theorem witness_EachCauseHasItsInstructions :
    (∃ t, (State.reset.setSp 16).fault = none ∧
      exec (.call 0x210) (State.reset.setSp 16) = .next t ∧ t.fault = some .stackOverflow) ∧
    (∃ t, State.reset.fault = none ∧ exec .ret State.reset = .next t ∧
      t.fault = some .stackUnderflow) ∧
    (∃ t, (strict (atI 0xFFF)).fault = none ∧ exec (.ldVxMem 1) (strict (atI 0xFFF)) = .next t ∧
      t.fault = some .addressFault) :=
  ⟨⟨_, rfl, rfl, rfl⟩, ⟨_, rfl, rfl, rfl⟩, ⟨_, rfl, rfl, rfl⟩⟩

/-- A call that pushes, an FX65 that advances I under the quirk, and one that faults. -/
theorem witness_EachPartHasItsWriters :
    (∃ t, exec (.call 0x210) State.reset = .next t) ∧
    (∃ t, exec (.ldVxMem 0) (withQ ⟨false, true, false, false, true⟩ State.reset) = .next t ∧
      t.i ≠ State.reset.i) ∧
    (∃ t, exec (.ldVxMem 1) (strict (atI 0xFFF)) = .next t ∧ t.fault ≠ none) :=
  ⟨⟨_, rfl⟩, ⟨_, rfl, by decide⟩, ⟨_, rfl, by decide⟩⟩

/-- A running step, one that faults, one of an unknown word, and one that is gated. -/
theorem witness_StepMovesPc :
    (∃ t, step (loaded 0x1234) = .next t) ∧
    (∃ t, step (loaded 0x00EE) = .next t ∧ t.fault = some .stackUnderflow) ∧
    (∃ t, step State.reset = .next t) ∧ (∃ t, step waiting = .next t) :=
  ⟨⟨_, rfl⟩, ⟨_, rfl, rfl⟩, ⟨_, rfl⟩, ⟨_, rfl⟩⟩

theorem witness_EachRegisterHasItsWriters :
    ∃ t, exec (.ldImm 1 5) State.reset = .next t ∧ t.reg 1 ≠ State.reset.reg 1 :=
  ⟨_, rfl, by decide⟩

/-- An instruction other than CXNN, and CXNN for the clockspeed. -/
theorem witness_DrawsAndClockspeedDoNotInfluence :
    ((∀ x nn, (Instr.ldVxMem 3 : Instr) ≠ .rnd x nn) ∧
      ∃ t, exec (.ldVxMem 3) State.reset = .next t) ∧
    ∃ t, exec (.rnd 3 0x0F) State.reset = .next t :=
  ⟨⟨fun _ _ => nofun, _, rfl⟩, _, rfl⟩

/-- The ends of the range that reads 0. -/
theorem witness_ResetStateIsTheSpecs : (80 ≤ 80 ∧ 80 < 4096) ∧ 80 ≤ 4095 ∧ 4095 < 4096 := by decide

theorem witness_StatesThatReadAlikeAreEqual :
    Memory.wf State.reset.mem = true ∧ Frame State.reset State.reset [] [] :=
  ⟨by decide, fun _ _ => rfl, fun p _ => by cases p <;> simp [Part.same], rfl, rfl, rfl⟩

end Sys2Proof.Tests
end

section
/-! SUPPORT. What a body can do, said once over all instructions, and the statements about the state
(10_state) that follow from it. -/

namespace Sys2Proof.Machine

/-! ### What a body can do -/

/-- When the body of an instruction raises a cause (60_exceptions R268). -/
inductive Raises (s : State) : Instr → FaultCause → Prop where
  | underflow (h : s.sp = 0) : Raises s .ret .stackUnderflow
  | overflow (nnn : Addr12) (h : s.sp = 16) : Raises s (.call nnn) .stackOverflow
  | address {i : Instr} (h : s.dataFaults (dataBytes i) = true) : Raises s i .addressFault

/-- `Runs s i t`: run on `s`, the body of `i` answers `t`, by fault entry or by the instruction's own
effect. Tied to the model by `runs_of_exec`. -/
inductive Runs (s : State) : Instr → State → Prop where
  | raise {i : Instr} {c : FaultCause} (h : Raises s i c) :
      Runs s i (s.enterFault c (encode i) (s.pc - 2))
  | cls : Runs s .cls (s.setPix Screen.blank)
  | ret (h0 : s.sp ≠ 0) (h : (s.sp - 1).toNat < 16) :
      Runs s .ret ((s.setSp (s.sp - 1)).setPc (s.stack[(s.sp - 1).toNat]'h))
  | jp (nnn : Addr12) : Runs s (.jp nnn) (s.setPc (zext16 nnn))
  | call (nnn : Addr12) (h : s.sp.toNat < 16) :
      Runs s (.call nnn) (((s.setStack s.sp.toNat s.pc h).setSp (s.sp + 1)).setPc (zext16 nnn))
  | seImm (x : Nibble) (nn : Byte) : Runs s (.seImm x nn) (s.skipIf (s.reg x == nn))
  | sneImm (x : Nibble) (nn : Byte) : Runs s (.sneImm x nn) (s.skipIf (s.reg x != nn))
  | seReg (x y : Nibble) : Runs s (.seReg x y) (s.skipIf (s.reg x == s.reg y))
  | sneReg (x y : Nibble) : Runs s (.sneReg x y) (s.skipIf (s.reg x != s.reg y))
  | skp (x : Nibble) : Runs s (.skp x) (s.skipIf (s.keyHeld (s.reg x)))
  | sknp (x : Nibble) : Runs s (.sknp x) (s.skipIf (!s.keyHeld (s.reg x)))
  | jpV0 (nnn : Addr12) : Runs s (.jpV0 nnn) (s.setPc (byteToWord (s.reg 0) + zext16 nnn))
  | ldImm (x : Nibble) (nn : Byte) : Runs s (.ldImm x nn) (s.setReg x nn)
  | addImm (x : Nibble) (nn : Byte) : Runs s (.addImm x nn) (s.setReg x (s.reg x + nn))
  | ldReg (x y : Nibble) : Runs s (.ldReg x y) (s.setReg x (s.reg y))
  | ldVxDt (x : Nibble) : Runs s (.ldVxDt x) (s.setReg x s.dt)
  | or (x y : Nibble) : Runs s (.or x y) (s.setRegLogic x (s.reg x ||| s.reg y))
  | and (x y : Nibble) : Runs s (.and x y) (s.setRegLogic x (s.reg x &&& s.reg y))
  | xor (x y : Nibble) : Runs s (.xor x y) (s.setRegLogic x (s.reg x ^^^ s.reg y))
  | addReg (x y : Nibble) : Runs s (.addReg x y)
      (s.setRegFlag x (s.reg x + s.reg y) (addCarry (s.reg x) (s.reg y)))
  | sub (x y : Nibble) : Runs s (.sub x y)
      (s.setRegFlag x (s.reg x - s.reg y) (notBorrow (s.reg x) (s.reg y)))
  | shr (x y : Nibble) : Runs s (.shr x y)
      (s.setRegFlag x (s.shiftSource x y >>> 1) (shiftedOutRight (s.shiftSource x y)))
  | subn (x y : Nibble) : Runs s (.subn x y)
      (s.setRegFlag x (s.reg y - s.reg x) (notBorrow (s.reg y) (s.reg x)))
  | shl (x y : Nibble) : Runs s (.shl x y)
      (s.setRegFlag x (s.shiftSource x y <<< 1) (shiftedOutLeft (s.shiftSource x y)))
  | rnd (x : Nibble) (nn : Byte) :
      Runs s (.rnd x nn) ((s.setReg x (s.drawnByte &&& nn)).countDraw)
  | drw (x y n : Nibble) (h : s.dataFaults n.toNat = false) : Runs s (.drw x y n)
      ((s.setPix (drawTargets s.pix (s.spriteTargets (s.reg x) (s.reg y) n.toNat)).1).setReg VF
        (flagByte (drawTargets s.pix (s.spriteTargets (s.reg x) (s.reg y) n.toNat)).2))
  | ldI (nnn : Addr12) : Runs s (.ldI nnn) (s.setI (zext16 nnn))
  | addIVx (x : Nibble) : Runs s (.addIVx x)
      ((s.setI (s.i + byteToWord (s.reg x))).setIndexFlag (indexOverflow s.i (s.reg x)))
  | ldFVx (x : Nibble) : Runs s (.ldFVx x) (s.setI (byteToWord (s.reg x) * 5))
  | ldBVx (x : Nibble) (h : s.dataFaults 3 = false) :
      Runs s (.ldBVx x) (s.writeBytes s.i.toNat (bcdDigits (s.reg x)))
  | ldMemVx (x : Nibble) (h : s.dataFaults (x.toNat + 1) = false) : Runs s (.ldMemVx x)
      ((s.writeBytes s.i.toNat (s.regBlock (x.toNat + 1))).blockAdvance x)
  | ldVxMem (x : Nibble) (h : s.dataFaults (x.toNat + 1) = false) : Runs s (.ldVxMem x)
      ((s.loadRegs s.i.toNat 0 (x.toNat + 1)).blockAdvance x)
  | ldVxK (x : Nibble) : Runs s (.ldVxK x) (s.startWait x)
  | ldDtVx (x : Nibble) : Runs s (.ldDtVx x) (s.setDt (s.reg x))
  | ldStVx (x : Nibble) : Runs s (.ldStVx x) (s.setSt (s.reg x))

/-- No pop, and no push, where the stack entry does not exist (log entry 5). -/
theorem State.pop_of_le {s : State} (h : 16 ≤ (s.sp - 1).toNat) : s.pop = none := dif_neg (by omega)

theorem State.push_of_le {s : State} (w : Word) (h : 16 ≤ s.sp.toNat) : s.push w = none :=
  dif_neg (by omega)

/-- Everything RET can do. -/
theorem execRet_cases (s : State) :
    (∃ t, execRet s = .next t ∧ Runs s .ret t) ∨
      (16 < s.sp.toNat ∧ execRet s = .fault .stackIndexOutOfRange) := by
  by_cases h0 : s.sp = 0
  · exact .inl ⟨_, execRet_of_empty h0, .raise (.underflow h0)⟩
  · by_cases hl : (s.sp - 1).toNat < 16
    · exact .inl ⟨_, execRet_of_pos h0 hl, .ret h0 hl⟩
    · rw [not_lt] at hl
      refine .inr ⟨by rw [sp_sub_one_toNat h0] at hl; omega, ?_⟩
      rw [execRet, if_neg h0, State.pop_of_le hl]; rfl

/-- Everything CALL can do. -/
theorem execCall_cases (nnn : Addr12) (s : State) :
    (∃ t, execCall nnn s = .next t ∧ Runs s (.call nnn) t) ∨
      (16 < s.sp.toNat ∧ execCall nnn s = .fault .stackIndexOutOfRange) := by
  by_cases hf : s.sp = 16
  · exact .inl ⟨_, execCall_of_full nnn hf, .raise (.overflow nnn hf)⟩
  · have hne : s.sp.toNat ≠ 16 := fun e => hf (BitVec.eq_of_toNat_eq e)
    by_cases hl : s.sp.toNat < 16
    · exact .inl ⟨_, execCall_of_lt nnn hl, .call nnn hl⟩
    · refine .inr ⟨by omega, ?_⟩
      rw [execCall, if_neg hf, State.push_of_le _ (by omega)]; rfl

/-- Everything a body can do: it answers a state by `Runs`, or it stops on a stack entry that does not
exist, which needs SP above 16. -/
theorem exec_cases (i : Instr) (s : State) :
    (∃ t, exec i s = .next t ∧ Runs s i t) ∨
      (16 < s.sp.toNat ∧ exec i s = .fault .stackIndexOutOfRange) := by
  cases i
  case ret => exact execRet_cases s
  case call nnn => exact execCall_cases nnn s
  case drw x y n =>
    cases h : s.dataFaults n.toNat
    · exact .inl ⟨_, execDrw_of_runs x y n h, .drw x y n h⟩
    · exact .inl ⟨_, execDrw_of_faults x y n h, .raise (.address h)⟩
  case ldBVx x =>
    cases h : s.dataFaults 3
    · exact .inl ⟨_, execLdBVx_of_runs x h, .ldBVx x h⟩
    · exact .inl ⟨_, execLdBVx_of_faults x h, .raise (.address h)⟩
  case ldMemVx x =>
    cases h : s.dataFaults (x.toNat + 1)
    · exact .inl ⟨_, execLdMemVx_of_runs x h, .ldMemVx x h⟩
    · exact .inl ⟨_, execLdMemVx_of_faults x h, .raise (.address h)⟩
  case ldVxMem x =>
    cases h : s.dataFaults (x.toNat + 1)
    · exact .inl ⟨_, execLdVxMem_of_runs x h, .ldVxMem x h⟩
    · exact .inl ⟨_, execLdVxMem_of_faults x h, .raise (.address h)⟩
  all_goals exact .inl ⟨_, rfl, by constructor⟩

/-- A next state that a body answers is one by `Runs`. -/
theorem runs_of_exec {i : Instr} {s t : State} (h : exec i s = .next t) : Runs s i t := by
  obtain ⟨u, hu, hr⟩ | ⟨-, hu⟩ := exec_cases i s
  · cases hu.symm.trans h; exact hr
  · cases hu.symm.trans h


/-- From SP at most 16 every body answers a next state. -/
theorem exec_progress {s : State} (h : s.sp.toNat ≤ 16) (i : Instr) :
    ∃ t, exec i s = .next t ∧ Runs s i t :=
  (exec_cases i s).resolve_right fun hf => by omega

/-- AddressFault needs its policy and a data access (20_memory R62). -/
theorem Raises.policy {s : State} {i : Instr} (h : Raises s i .addressFault) :
    s.oobPolicy = .fault ∧ dataBytes i ≠ 0 := by
  obtain _ | _ | h := h
  obtain ⟨hp, hn, -⟩ := State.dataFaults_iff.1 h
  exact ⟨hp, hn⟩

/-! ### Well-formedness (10_state R46) -/

/-- Fault entry from a state that does not wait keeps well-formedness, where the policy allows the cause. -/
theorem State.wellFormed_enterFault {s : State} (h : s.wellFormed = true) (hk : s.keyWaiting = false)
    {c : FaultCause} (hc : c = .addressFault → s.oobPolicy = .fault) (op a : Word) :
    (s.enterFault c op a).wellFormed = true := by
  obtain ⟨hsp, -, hm, -⟩ := wellFormed_iff.1 h
  exact wellFormed_iff.2 ⟨hsp, by simp [hk], hm, by simpa using hc⟩

theorem State.wellFormed_writeBytes {s : State} (h : s.wellFormed = true) (a : Nat) (bs : List Byte) :
    (s.writeBytes a bs).wellFormed = true := by
  obtain ⟨hsp, hw, hm, hf⟩ := wellFormed_iff.1 h
  exact wellFormed_iff.2 ⟨by simpa, by simpa using hw, s.wf_writeBytes hm a bs, by simpa using hf⟩

theorem State.wellFormed_setSp {s : State} (h : s.wellFormed = true) {n : BitVec 5} (hn : n.toNat ≤ 16) :
    (s.setSp n).wellFormed = true := by
  obtain ⟨-, hw, hm, hf⟩ := wellFormed_iff.1 h
  exact wellFormed_iff.2 ⟨hn, hw, hm, hf⟩

theorem State.wellFormed_startWait {s : State} (h : s.wellFormed = true) (hf : s.fault = none)
    (r : Nibble) : (s.startWait r).wellFormed = true := by
  obtain ⟨hsp, -, hm, hp⟩ := wellFormed_iff.1 h
  exact wellFormed_iff.2 ⟨hsp, by simp [hf], hm, hp⟩

/-- A body run by a running core keeps well-formedness. -/
theorem Runs.wellFormed {s t : State} {i : Instr} (hr : Runs s i t) (h : s.wellFormed = true)
    (hf : s.fault = none) (hk : s.keyWaiting = false) : t.wellFormed = true := by
  obtain ⟨hsp, -⟩ := State.wellFormed_iff.1 h
  cases hr
  case raise c hc =>
    exact State.wellFormed_enterFault h hk (fun e => (Raises.policy (e ▸ hc)).1) _ _
  case ret h0 hl => exact State.wellFormed_setSp (s := s) (n := s.sp - 1) h (by omega)
  case call nnn hl =>
    have hn : (s.sp + 1).toNat ≤ 16 := by rw [sp_add_one_toNat hl]; omega
    exact State.wellFormed_setSp (s := s.setStack s.sp.toNat s.pc hl) h hn
  case ldVxK x => exact State.wellFormed_startWait h hf x
  case ldBVx x _ => exact State.wellFormed_writeBytes h _ _
  case ldMemVx x _ =>
    rw [State.blockAdvance_eq]
    exact State.wellFormed_writeBytes h _ _
  -- every other body leaves all that well-formedness reads
  all_goals exact (State.wellFormed_congr (by simp) (by simp) (by simp) (by simp) (by simp)).trans h

/-- Settles O51: by the cases of a step, a body being one by `Runs`. -/
theorem stepKeepsWellFormedness : Obligations.StepKeepsWellFormedness := by
  intro s h
  rcases step_cases s with ⟨-, hs⟩ | ⟨hg, hff, hs⟩ | ⟨hg, -, i, -, hs⟩ | ⟨-, -, e, -, hs⟩
  · exact ⟨s, hs, h⟩
  · obtain ⟨-, hk⟩ := State.runState_eq_running.1 (State.gated_eq_false.1 hg)
    exact ⟨_, hs, State.wellFormed_enterFault h hk (fun _ => (State.fetchFaults_iff.1 hff).1) _ _⟩
  · obtain ⟨hf, hk⟩ := State.runState_eq_running.1 (State.gated_eq_false.1 hg)
    obtain ⟨hsp, -⟩ := State.wellFormed_iff.1 h
    obtain ⟨t, ht, hr⟩ := exec_progress (s := s.advance) hsp i
    exact ⟨t, hs.trans ht, hr.wellFormed (s := s.advance) h hf hk⟩
  · exact ⟨s.advance, hs, h⟩

theorem State.wellFormed_init (s : State) (font : Vector Byte 80) (config : Option Quirks) :
    (s.init font config).wellFormed = true := by
  have hm : Memory.wf (State.reset.writeBytes 0 font.toList).mem = true :=
    State.wf_writeBytes (by decide) 0 _
  exact State.wellFormed_iff.2 ⟨by simp [init, reset], by simp [init, reset], hm,
    by simp [init, reset]⟩

theorem State.wellFormed_keyDown {s : State} (h : s.wellFormed = true) (k : Nat) :
    (s.keyDown k).wellFormed = true := by
  unfold keyDown; split <;> exact h

theorem State.wellFormed_endWait {s : State} (h : s.wellFormed = true) : s.endWait.wellFormed = true := by
  obtain ⟨hsp, -, hm, hf⟩ := wellFormed_iff.1 h
  exact wellFormed_iff.2 ⟨hsp, by simp, hm, hf⟩

theorem State.wellFormed_keyUp {s : State} (h : s.wellFormed = true) (k : Nat) :
    (s.keyUp k).wellFormed = true := by
  unfold keyUp
  split
  · split
    · exact wellFormed_endWait (s := (s.releaseKey k).setReg _ _) h
    · exact h
    · exact h
  · exact h

/-- Settles O52: by the cases of a transaction; a step by O51, a restore by its own check. -/
theorem transactionsKeepWellFormedness : Obligations.TransactionsKeepWellFormedness := by
  intro tr s h
  cases tr
  case init font config => exact ⟨_, _, rfl, s.wellFormed_init font config⟩
  case loadRom bytes =>
    cases hb : romFits bytes
    · exact ⟨s, .rejected, by simp [transact, hb], h⟩
    · exact ⟨s.loadRom bytes, .done, by simp [transact, hb], State.wellFormed_writeBytes h _ _⟩
  case step =>
    obtain ⟨t, ht, hw⟩ := stepKeepsWellFormedness s h
    exact ⟨t, .report (stepReport s), by simp [transact, stepTransaction, ht], hw⟩
  case tickTimers => exact ⟨s.tick, _, rfl, h⟩
  case keyDown k => exact ⟨_, _, rfl, State.wellFormed_keyDown h k⟩
  case keyUp k => exact ⟨_, _, rfl, State.wellFormed_keyUp h k⟩
  case save => exact ⟨s, _, rfl, h⟩
  case restore u =>
    cases ha : s.admits u
    · exact ⟨s, .rejected, by simp [transact, ha], h⟩
    · exact ⟨s.adopt u, .done, by simp [transact, ha], ha⟩
  case setQuirks q => exact ⟨s.setQuirks q, _, rfl, h⟩
  case setClockspeed hz =>
    by_cases hh : 1 ≤ hz
    · exact ⟨s.setClockspeed hz, .done, by simp only [transact, if_pos hh], h⟩
    · exact ⟨s, .rejected, by simp only [transact, if_neg hh], h⟩

/-! ### Registers (10_state R21 to R24) -/

/-- The block of FX65 is V0 to Vx (30_encoding R84). -/
theorem State.reg_loadRegs_block (s : State) (a : Nat) (x q : Nibble) :
    (s.loadRegs a 0 (x.toNat + 1)).reg q =
      if q.toNat ≤ x.toNat then s.readByte (a + q.toNat) else s.reg q := by
  have := x.isLt
  rw [reg_loadRegs _ _ _ _ (by omega)]
  simp

/-- A body leaves every register that it does not write. -/
theorem Runs.reg_eq {s t : State} {i : Instr} (hr : Runs s i t) {q : Nibble} (hq : ¬Writes s q i) :
    t.reg q = s.reg q := by
  cases hr
  case ldImm | addImm | ldReg | ldVxDt => exact s.reg_setReg_ne _ hq
  case rnd x nn => exact s.reg_setReg_ne _ hq
  case or | and | xor =>
    obtain ⟨hx, hf⟩ := not_or.1 hq
    rw [State.reg_setRegLogic, if_neg fun h => hf h.symm, if_neg hx]
  case addReg | sub | shr | subn | shl =>
    obtain ⟨hx, hf⟩ := not_or.1 hq
    rw [State.reg_setRegFlag, if_neg hf, if_neg hx]
  case drw => exact State.reg_setReg_ne (s.setPix _) _ hq
  case addIVx x =>
    rw [State.reg_setIndexFlag, if_neg fun h => hq h.symm]; rfl
  case ldVxMem x _ =>
    rw [State.reg_blockAdvance, State.reg_loadRegs_block]
    exact if_neg hq
  all_goals simp

/-- Settles O57: a body leaves every register that it does not write. -/
theorem eachRegisterHasItsWriters : Obligations.EachRegisterHasItsWriters :=
  fun _ _ _ _ h hne => by_contra fun hw => hne ((runs_of_exec h).reg_eq hw)

/-- Settles O27: VF is written last, as a flag byte or as 0. -/
theorem flagIsAlwaysOverwritten : Obligations.FlagIsAlwaysOverwritten := by
  intro x y n s t i hi h hs ht
  cases runs_of_exec h
  case raise => simp at ht
  case addReg | sub | shr | subn | shl =>
    rw [State.reg_setRegFlag, if_pos rfl]
    exact flagByte_cases _
  case drw =>
    rw [State.reg_setReg_self]
    exact flagByte_cases _
  case or | and | xor =>
    have hq : s.quirks.logicOpsResetVf = true := by simp at hi; exact hi.1
    rw [State.reg_setRegLogic, if_pos ⟨hq, rfl⟩]
    exact .inl rfl
  case addIVx =>
    have hq : s.quirks.fx1eSetsVf = true := by simp at hi; exact hi.1
    rw [State.reg_setIndexFlag, if_pos ⟨hq, rfl⟩]
    exact flagByte_cases _
  -- no other instruction is on the list
  all_goals simp at hi

/-! ### The other parts of the state (10_state R28 to R36) -/

/-- The fault record is written by the instructions that can raise a cause. -/
theorem Raises.writer {s : State} {i : Instr} {c : FaultCause} (h : Raises s i c) :
    i = .ret ∨ (∃ nnn, i = .call nnn) ∨ (s.oobPolicy = .fault ∧ dataBytes i ≠ 0) := by
  cases h with
  | underflow _ => exact .inl rfl
  | overflow nnn _ => exact .inr (.inl ⟨nnn, rfl⟩)
  | address hd => exact .inr (.inr (Raises.policy (.address hd)))

/-- Settles O55: by the cases of a body. -/
theorem eachPartHasItsWriters : Obligations.EachPartHasItsWriters := by
  intro i s t h
  cases runs_of_exec h
  -- fault entry writes PC and the fault record only
  case raise c hc => simp [hc.writer]
  -- a block transfer writes I under its quirk only
  case ldMemVx | ldVxMem =>
    cases hq : s.quirks.loadStoreIncrementsI <;> simp [hq]
  -- every other body leaves each part by the field lemmas of its updates, or is the writer named
  all_goals simp

/-! ### PC (10_state R26) -/

theorem State.keyHeld_iff {s : State} {k : Byte} :
    s.keyHeld k = true ↔ k.toNat < 16 ∧ s.keys.getLsbD k.toNat = true := by
  simp [keyHeld]

section
variable (s : State) {c : Bool} {p : Prop} [Decidable p]

/-- A skip on the advanced state moves PC by 4 from the instruction's address, else by 2 (41_control_flow
R138). -/
theorem State.pc_skipIf_advance (h : c = true ↔ p) :
    (s.advance.skipIf c).pc = if p then s.pc + 4 else s.pc + 2 := by
  have h4 : s.pc + 2 + 2 = s.pc + 4 := BitVec.add_assoc s.pc 2 2
  rw [skipIf_pc, advance_pc, h4]
  simp only [h]

/-- The same, by the condition under which there is no skip. -/
theorem State.pc_skipIf_advance_not (h : c = false ↔ p) :
    (s.advance.skipIf c).pc = if p then s.pc + 2 else s.pc + 4 := by
  rw [s.pc_skipIf_advance (p := ¬p) (by rw [← h, Bool.not_eq_false]), ite_not]

end

@[simp] theorem zext16_toNat (nnn : Addr12) : (zext16 nnn).toNat = nnn.toNat := by
  have := nnn.isLt
  simp [zext16]; omega

@[simp] theorem byteToWord_toNat (b : Byte) : (byteToWord b).toNat = b.toNat := by
  have := b.isLt
  simp [byteToWord]; omega

/-- BNNN's target needs no reduction (41_control_flow R137). -/
theorem jpV0_target_toNat (b : Byte) (nnn : Addr12) :
    (byteToWord b + zext16 nnn).toNat = b.toNat + nnn.toNat := by
  have := b.isLt
  have := nnn.isLt
  rw [BitVec.toNat_add, byteToWord_toNat, zext16_toNat]
  omega

/-- Where a body run on the advanced state leaves PC, when it raises nothing. -/
theorem Runs.pcAfter {s t : State} {i : Instr} (hr : Runs s.advance i t) (ht : t.fault = none) :
    PcAfter s t.pc i := by
  cases hr
  case raise => simp at ht
  case ret h0 hl =>
    simp only [State.advance_sp] at h0 hl
    rw [PcAfter, ← sp_sub_one_toNat h0]
    exact Vector.getElem?_eq_getElem hl
  case jp nnn => exact zext16_toNat nnn
  case call nnn _ => exact zext16_toNat nnn
  case jpV0 nnn => exact jpV0_target_toNat _ nnn
  case seImm | seReg => exact s.pc_skipIf_advance beq_iff_eq
  case sneImm | sneReg => exact s.pc_skipIf_advance_not bne_eq_false_iff_eq
  case skp x => exact s.pc_skipIf_advance State.keyHeld_iff
  case sknp x =>
    exact s.pc_skipIf_advance_not (by rw [Bool.not_eq_false']; exact State.keyHeld_iff)
  all_goals simp [PcAfter]

/-- A body raises its cause at the instruction's address, and leaves PC there (60_exceptions R264). -/
theorem Runs.pc_of_fault {s t : State} {i : Instr} (hr : Runs s.advance i t) (hs : s.fault = none)
    (ht : t.fault ≠ none) : t.pc = s.pc := by
  cases hr
  case raise => simp
  all_goals exact absurd (by simpa using hs) ht

/-- Settles O56: by the cases of a step. -/
theorem stepMovesPc : Obligations.StepMovesPc := by
  intro s t h
  rcases step_cases s with ⟨hg, hs⟩ | ⟨hg, -, hs⟩ | ⟨hg, -, i, hd, hs⟩ | ⟨hg, -, e, hd, hs⟩
  · cases hs.symm.trans h
    have hr : s.runState ≠ .running := fun e => by simp [State.gated_eq_false.2 e] at hg
    rw [if_pos (.inl hr)]
  · cases hs.symm.trans h
    simp
  · have hrun := State.gated_eq_false.1 hg
    have hr := runs_of_exec (hs.symm.trans h)
    by_cases ht : t.fault = none
    · simpa [hrun, ht, hd] using hr.pcAfter ht
    · simpa [hrun, ht] using hr.pc_of_fault (State.runState_eq_running.1 hrun).1 ht
  · have hrun := State.gated_eq_false.1 hg
    cases hs.symm.trans h
    simp [hrun, (State.runState_eq_running.1 hrun).1, hd]

/-! ### States that read alike, and the reset state (10_state R20, R45) -/

theorem State.v_eq_of_reg_eq {s t : State} (h : ∀ q, t.reg q = s.reg q) : s.v = t.v :=
  Vector.ext fun k hk => by
    have hq : (BitVec.ofNat 4 k : Nibble).toNat = k := by
      rw [BitVec.toNat_ofNat]; exact Nat.mod_eq_of_lt hk
    simpa [reg, hq] using (h (BitVec.ofNat 4 k)).symm

theorem State.mem_eq_of_readByte_eq {s t : State} (hs : Memory.wf s.mem = true)
    (ht : Memory.wf t.mem = true) (h : ∀ a, t.readByte a = s.readByte a) : s.mem = t.mem :=
  eq_of_cellRead_eq hs ht fun a ha => by
    simpa [readByte, Nat.mod_eq_of_lt ha] using (h a).symm

/-- Settles O59: canonical memories and screens that read alike are equal, and the frame covers every
other field. -/
theorem statesThatReadAlikeAreEqual : Obligations.StatesThatReadAlikeAreEqual := by
  rintro s t hs ht ⟨hreg, hpart, hq, hc, hp⟩
  have part : ∀ p : Part, p.same s t := fun p => hpart p (List.not_mem_nil)
  have hmem : s.mem = t.mem := State.mem_eq_of_readByte_eq hs ht (part .memory)
  have hv : s.v = t.v := State.v_eq_of_reg_eq fun q => hreg q (List.not_mem_nil)
  have hpix : s.pix = t.pix := Screen.ext_pixel fun c r => (part .screen c r).symm
  obtain ⟨hstack, hsp⟩ := part .stack
  obtain ⟨hkw, hrw⟩ := part .wait
  obtain ⟨hf, hfo, hfp⟩ := part .faultRecord
  have hi : t.i = s.i := part .index
  have hpc : t.pc = s.pc := part .pc
  have hdt : t.dt = s.dt := part .delay
  have hst : t.st = s.st := part .sound
  have hkeys : t.keys = s.keys := part .keys
  have hdraw : t.drawCount = s.drawCount := part .draws
  cases s
  cases t
  simp_all

/-- An address at or above the font holds 0 after reset (10_state R45). -/
theorem State.readByte_reset {a : Nat} (h : 80 ≤ a) (ha : a < 4096) : State.reset.readByte a = 0 := by
  rw [readByte, Nat.mod_eq_of_lt ha]
  exact if_neg (not_lt.2 h)

/-- Settles O46: the font byte by byte, the bytes above it by their background, the rest by definition. -/
theorem resetStateIsTheSpecs : Obligations.ResetStateIsTheSpecs := by
  refine ⟨by decide, by decide, by decide, fun a => State.readByte_reset, ?_⟩
  refine ⟨fun r => by simp [State.reg, State.reset], ?_⟩
  refine ⟨rfl, rfl, rfl, rfl, rfl, rfl, rfl, rfl, rfl, rfl, rfl, rfl, ?_, rfl, rfl, rfl⟩
  exact Screen.pixel_blank

end Sys2Proof.Machine
end

section
/-! SUPPORT. The fetch and its fault, a word read back after a store, and the statements about memory
(20_memory) that follow. -/

namespace Sys2Proof.Machine

/-! ### The fetch (20_memory R62, 40_execution_cycle R112) -/

theorem fetches_iff {s : State} :
    Fetches s ↔ s.runState = .running ∧ ¬(s.oobPolicy = .fault ∧ 0x0FFF ≤ s.pc.toNat) := by
  rw [Fetches, ← State.fetchFaults_iff, Bool.not_eq_true]

theorem stepReport_of_fetchFaults {s : State} (h : s.gated = false) (hf : s.fetchFaults = true) :
    stepReport s = .fault .addressFault 0 s.pc := by simp [stepReport, h, hf]

theorem State.readByte_mod (s : State) (a : Nat) : s.readByte (a % 4096) = s.readByte a := by
  rw [readByte, Nat.mod_mod]; rfl

/-- Settles O9: by whether the fetch faults; a byte's address is reduced by its own definition. -/
theorem fetchFaultsOnlyUnderFaultPolicy : Obligations.FetchFaultsOnlyUnderFaultPolicy := by
  refine ⟨fun s hrun => ?_, fun s a => (s.readByte_mod a).symm⟩
  have hg := State.gated_eq_false.2 hrun
  split
  case isTrue h =>
    have hf := State.fetchFaults_iff.2 h
    exact ⟨stepReport_of_fetchFaults hg hf, _, step_of_fetchFaults hg hf,
      faultEntered_enterFault s .addressFault 0 s.pc⟩
  case isFalse h => exact fetches_iff.2 ⟨hrun, h⟩

/-! ### Stored code (20_memory R71, 70_reset_and_hazards R301) -/

theorem State.readWord_blockAdvance (s : State) (x : Nibble) (a : Nat) :
    (s.blockAdvance x).readWord a = s.readWord a := by
  rw [readWord, readByte_blockAdvance, readByte_blockAdvance, readWord]

/-- The word at the address of a store is its first two bytes, high byte first (20_memory R61). -/
theorem State.readWord_writeBytes {s : State} (hm : Memory.wf s.mem = true) (a : Nat) {bs : List Byte}
    (hl : bs.length ≤ 4096) (h : 1 < bs.length) :
    (s.writeBytes a bs).readWord a = wordOfBytes bs[0] bs[1] := by
  have h0 : (s.writeBytes a bs).readByte a = bs[0] := readByte_writeBytes hm hl (k := 0) (by omega)
  rw [readWord, h0, readByte_writeBytes hm hl h]

/-- The block that FX55 with x >= 1 stores begins with the word V0 V1 (43_index_memory R194). -/
theorem State.readWord_writeBytes_regBlock {s : State} (hm : Memory.wf s.mem = true) (a : Nat)
    {x : Nibble} (hx : 1 ≤ x.toNat) :
    (s.writeBytes a (s.regBlock (x.toNat + 1))).readWord a = wordOfBytes (s.reg 0) (s.reg 1) := by
  have := x.isLt
  rw [readWord_writeBytes hm a (by rw [length_regBlock]; omega) (by rw [length_regBlock]; omega),
    getElem_regBlock, getElem_regBlock]
  rfl

/-- A step that fetches FX55 in range stores the registers at I and moves PC past the instruction,
whatever bytes it stores over. -/
theorem step_ldMemVx {s : State} {x : Nibble} (hf : Fetches s)
    (hd : decode s.fetchWord = .ok (.ldMemVx x)) (hr : InRange s (x.toNat + 1)) :
    step s = .next
      ((s.advance.writeBytes s.i.toNat (s.advance.regBlock (x.toNat + 1))).blockAdvance x) := by
  obtain ⟨hrun, hff⟩ := hf
  calc step s
    _ = execLdMemVx x s.advance := step_of_ok (State.gated_eq_false.2 hrun) hff hd
    _ = _ := execLdMemVx_of_runs x (s := s.advance) (inRange_iff.1 hr)

/-- Settles O34: after the step the word at the old I is V0 V1, and I is the new PC or the old one. -/
theorem storedCodeIsFetched : Obligations.StoredCodeIsFetched := by
  intro x s hm hx hr hf hd
  obtain ⟨t, ht, hpc, hw⟩ : ∃ t, step s = .next t ∧ t.pc = s.pc + 2 ∧
      t.readWord s.i.toNat = wordOfBytes (s.reg 0) (s.reg 1) := by
    refine ⟨_, step_ldMemVx hf hd hr, by simp, ?_⟩
    rw [State.readWord_blockAdvance]
    exact State.readWord_writeBytes_regBlock (s := s.advance) hm s.i.toNat hx
  constructor
  · intro hi
    exact ⟨t, ht, hpc, by rw [State.fetchWord, hpc, ← hi, hw]⟩
  · intro hi
    have hold : (t.setPc s.pc).fetchWord = t.readWord s.pc.toNat := rfl
    exact ⟨t, ht, hpc, by rw [hold, ← hi, hw]⟩

end Sys2Proof.Machine
end

section
/-! SUPPORT. What the decoder and the encoder say about each other and about the opcode table, and
the statements about encoding (30_encoding) that follow. -/

namespace Sys2Proof

/-! ### Encoding, then decoding (30_encoding R82, R86) -/

/-- The fields of an encoded word select the constructor and are its operands. -/
@[simp] theorem decode_encode (i : Instr) : decode (encode i) = .ok i := by
  cases i
  -- the whole word selects
  case cls | ret => rfl
  -- `o` alone selects
  case jp | call | ldI | jpV0 | seImm | sneImm | ldImm | addImm | rnd | drw => simp [encode, decode]
  -- `o` and `n` select
  case seReg | sneReg => simp [encode, decode]
  case ldReg | or | and | xor | addReg | sub | shr | subn | shl => simp [encode, decode, decode8]
  -- `o` and `nn` select
  case skp | sknp => simp [encode, decode, decodeE]
  case ldVxDt | ldVxK | ldDtVx | ldStVx | addIVx | ldFVx | ldBVx | ldMemVx | ldVxMem =>
    simp [encode, decode, decodeF]

/-- Settles O1: the fields of an encoded word are the operands that were encoded. -/
theorem decodeEncodeRoundTrip : Obligations.DecodeEncodeRoundTrip := decode_encode

/-! ### Everything the decoder can answer (30_encoding R85, R86, R95) -/

section
variable {op : Word} {o n : Nibble} {nn : Byte}

theorem wordA_of_fieldO (ho : fieldO op = o) : wordA o (fieldNNN op) = op := by
  rw [← ho, wordA_fields]

theorem wordXB_of_fieldO (ho : fieldO op = o) : wordXB o (fieldX op) (fieldNN op) = op := by
  rw [← ho, wordXB_fields]

theorem wordXYN_of_fieldO (ho : fieldO op = o) :
    wordXYN o (fieldX op) (fieldY op) (fieldN op) = op := by
  rw [← ho, wordXYN_fields]

theorem wordXB_of_fields (ho : fieldO op = o) (hnn : fieldNN op = nn) :
    wordXB o (fieldX op) nn = op := by
  rw [← hnn, wordXB_of_fieldO ho]

theorem wordXYN_of_fields (ho : fieldO op = o) (hn : fieldN op = n) :
    wordXYN o (fieldX op) (fieldY op) n = op := by
  rw [← hn, wordXYN_of_fieldO ho]

/-- A sound answer about a word: an instruction whose encoding the word is, or Unknown with the word
itself, which the check of the unknown groups then refuses. -/
def Answers (op : Word) : Except DecodeError Instr → Prop
  | .ok i => encode i = op
  | .error e => e = .unknownOpcode op ∧ wellFormedWord op = false

theorem decode0_answers (ho : fieldO op = 0x0#4) : Answers op (decode0 op) := by
  by_cases hcls : op = 0x00E0#16
  · rw [decode0, if_pos hcls]; exact hcls.symm
  by_cases hret : op = 0x00EE#16
  · rw [decode0, if_neg hcls, if_pos hret]; exact hret.symm
  rw [decode0, if_neg hcls, if_neg hret]
  exact ⟨rfl, by simp [wellFormedWord_eq, ho, hcls, hret]⟩

theorem decode8_answers (ho : fieldO op = 0x8#4) : Answers op (decode8 op) := by
  unfold decode8
  split
  -- no value of `n` that selects
  case h_10 =>
    refine ⟨rfl, ?_⟩
    simp only [wellFormedWord_eq, ho]
    generalize fieldN op = n at *
    decide +revert
  all_goals exact wordXYN_of_fields ho ‹_›

theorem decodeE_answers (ho : fieldO op = 0xE#4) : Answers op (decodeE op) := by
  unfold decodeE
  split
  -- no value of `nn` that selects
  case h_3 => exact ⟨rfl, by simp_all [wellFormedWord_eq]⟩
  all_goals exact wordXB_of_fields ho ‹_›

theorem decodeF_answers (ho : fieldO op = 0xF#4) : Answers op (decodeF op) := by
  unfold decodeF
  split
  -- no value of `nn` that selects
  case h_10 => exact ⟨rfl, by simp_all [wellFormedWord_eq]⟩
  all_goals exact wordXB_of_fields ho ‹_›

/-- Groups 5 and 9: one instruction, and its `n` is 0. -/
theorem zeroN_answers {f : Nibble → Nibble → Instr} (ho : fieldO op = o)
    (hf : ∀ x y, encode (f x y) = wordXYN o x y 0x0#4)
    (hw : wellFormedWord op = (fieldN op == 0x0#4)) :
    Answers op (if fieldN op = 0x0#4 then .ok (f (fieldX op) (fieldY op))
      else .error (.unknownOpcode op)) := by
  split
  case isTrue hn => exact (hf _ _).trans (wordXYN_of_fields ho hn)
  case isFalse hn => exact ⟨rfl, by simp [hw, hn]⟩

end

/-- Every answer of the decoder is sound, by the cases of the major opcode. -/
theorem decode_answers (op : Word) : Answers op (decode op) := by
  unfold decode
  split
  case h_1 ho => exact decode0_answers ho
  case h_9 ho => exact decode8_answers ho
  case h_15 ho => exact decodeE_answers ho
  case h_16 ho => exact decodeF_answers ho
  -- `o` = 5, 9
  case h_6 ho | h_10 ho =>
    exact zeroN_answers ho (fun _ _ => rfl) (by simp only [wellFormedWord_eq, ho])
  -- `o` = 1, 2, A, B
  case h_2 | h_3 | h_11 | h_12 => exact wordA_of_fieldO ‹_›
  -- `o` = 3, 4, 6, 7, C
  case h_4 | h_5 | h_7 | h_8 | h_13 => exact wordXB_of_fieldO ‹_›
  -- `o` = D
  case h_14 => exact wordXYN_of_fieldO ‹_›
  -- there is no other value of `o`
  case h_17 =>
    exfalso
    generalize fieldO op = o at *
    revert o
    decide

theorem encode_of_decode {op : Word} {i : Instr} (h : decode op = .ok i) : encode i = op := by
  simpa [h, Answers] using decode_answers op

theorem unknown_of_decode {op : Word} {e : DecodeError} (h : decode op = .error e) :
    e = .unknownOpcode op ∧ wellFormedWord op = false := by
  simpa [h, Answers] using decode_answers op

/-- Settles O2: the decoder answers only an instruction whose encoding the word is. -/
theorem decodedWordIsItsEncoding : Obligations.DecodedWordIsItsEncoding :=
  fun _ _ h => encode_of_decode h

/-! ### The rows of the opcode table (30_encoding R86) -/

/-- The law of every instruction: its word matches its row and is in no unknown group. -/
theorem Laws.rowMatch (i : Instr) : RowMatch.Statement i :=
  i.rec (motive := RowMatch.Statement)
    RowMatch.cls RowMatch.ret RowMatch.jp RowMatch.call RowMatch.seImm RowMatch.sneImm
    RowMatch.seReg RowMatch.ldImm RowMatch.addImm RowMatch.ldReg RowMatch.or RowMatch.and
    RowMatch.xor RowMatch.addReg RowMatch.sub RowMatch.shr RowMatch.subn RowMatch.shl
    RowMatch.sneReg RowMatch.ldI RowMatch.jpV0 RowMatch.rnd RowMatch.drw RowMatch.skp
    RowMatch.sknp RowMatch.ldVxDt RowMatch.ldVxK RowMatch.ldDtVx RowMatch.ldStVx RowMatch.addIVx
    RowMatch.ldFVx RowMatch.ldBVx RowMatch.ldMemVx RowMatch.ldVxMem

theorem covers_encode (i : Instr) : i.row.covers (encode i) = true := (Laws.rowMatch i).1

theorem wellFormedWord_encode (i : Instr) : wellFormedWord (encode i) = true := (Laws.rowMatch i).2

/-- The table holds the rows of the instructions and no others. -/
theorem mem_opcodeRows {row : OpcodeRow} : row ∈ opcodeRows ↔ ∃ i : Instr, i.row = row := by
  constructor
  · intro h
    simp only [opcodeRows, List.mem_append, List.mem_map] at h
    obtain (⟨i, -, hi⟩ | ⟨i, -, hi⟩) | ⟨i, -, hi⟩ := h <;> exact ⟨i, hi⟩
  · rintro ⟨i, rfl⟩
    cases i <;> simp [opcodeRows, Instr.row]

section
variable {m : String} {p mask op : Word}

theorem and_mask_of_covers (h : OpcodeRow.covers ⟨m, p, mask⟩ op = true) : op &&& mask = p :=
  eq_of_beq h

/-- A row with mask F000 fixes `o`. -/
theorem fieldO_of_covers (h : OpcodeRow.covers ⟨m, p, 0xF000#16⟩ op = true) :
    fieldO op = fieldO p := by
  rw [← and_mask_of_covers h, mask_F000, fieldO_wordXYN]

/-- A row with mask F00F fixes `o` and `n`. -/
theorem fieldO_fieldN_of_covers (h : OpcodeRow.covers ⟨m, p, 0xF00F#16⟩ op = true) :
    fieldO op = fieldO p ∧ fieldN op = fieldN p := by
  rw [← and_mask_of_covers h, mask_F00F, fieldO_wordXYN, fieldN_wordXYN]
  exact ⟨rfl, rfl⟩

/-- A row with mask F0FF fixes `o` and `nn`. -/
theorem fieldO_fieldNN_of_covers (h : OpcodeRow.covers ⟨m, p, 0xF0FF#16⟩ op = true) :
    fieldO op = fieldO p ∧ fieldNN op = fieldNN p := by
  rw [← and_mask_of_covers h, mask_F0FF, fieldO_wordXB, fieldNN_wordXB]
  exact ⟨rfl, rfl⟩

/-- A row with mask FFFF fixes the word. -/
theorem eq_of_covers (h : OpcodeRow.covers ⟨m, p, 0xFFFF#16⟩ op = true) : op = p := by
  rw [← and_mask_of_covers h, mask_FFFF]

end

/-- A word that an instruction's row covers decodes to an instruction of that row. -/
theorem decode_of_row_covers {i : Instr} {op : Word} (h : i.row.covers op = true) :
    ∃ j, decode op = .ok j ∧ j.row = i.row := by
  cases i
  case cls | ret =>
    rw [eq_of_covers h]
    exact ⟨_, rfl, rfl⟩
  case jp | call | ldI | jpV0 | seImm | sneImm | ldImm | addImm | rnd | drw =>
    rw [decode, fieldO_of_covers h]
    exact ⟨_, rfl, rfl⟩
  case seReg | sneReg =>
    obtain ⟨ho, hn⟩ := fieldO_fieldN_of_covers h
    rw [decode, ho, hn]
    exact ⟨_, rfl, rfl⟩
  case ldReg | or | and | xor | addReg | sub | shr | subn | shl =>
    obtain ⟨ho, hn⟩ := fieldO_fieldN_of_covers h
    rw [decode, ho, decode8, hn]
    exact ⟨_, rfl, rfl⟩
  case skp | sknp =>
    obtain ⟨ho, hnn⟩ := fieldO_fieldNN_of_covers h
    rw [decode, ho, decodeE, hnn]
    exact ⟨_, rfl, rfl⟩
  case ldVxDt | ldVxK | ldDtVx | ldStVx | addIVx | ldFVx | ldBVx | ldMemVx | ldVxMem =>
    obtain ⟨ho, hnn⟩ := fieldO_fieldNN_of_covers h
    rw [decode, ho, decodeF, hnn]
    exact ⟨_, rfl, rfl⟩

theorem decode_of_covers {row : OpcodeRow} {op : Word} (hrow : row ∈ opcodeRows)
    (h : row.covers op = true) : ∃ i, decode op = .ok i ∧ i.row = row := by
  obtain ⟨k, rfl⟩ := mem_opcodeRows.1 hrow
  exact decode_of_row_covers h

/-- Settles O3: a row that covers the word belongs to what the word decodes to, so there is one at
most, and none when the answer is Unknown. -/
theorem decodeFollowsOpcodeTable : Obligations.DecodeFollowsOpcodeTable := by
  intro op
  constructor
  · intro i hi
    have hc : i.row.covers op = true := encode_of_decode hi ▸ covers_encode i
    refine ⟨mem_opcodeRows.2 ⟨i, rfl⟩, hc, fun row hrow hc => ?_⟩
    obtain ⟨j, hj, rfl⟩ := decode_of_covers hrow hc
    cases hi.symm.trans hj
    rfl
  · intro e he
    refine ⟨(unknown_of_decode he).1, fun row hrow => Bool.eq_false_iff.2 fun hc => ?_⟩
    obtain ⟨j, hj, -⟩ := decode_of_covers hrow hc
    cases he.symm.trans hj

/-! ### The unknown groups (30_encoding R95) and the sample words (95_test_vectors V2.1) -/

/-- Settles O4: a word that does not decode is in an unknown group, and the word of an instruction
is in none. -/
theorem unknownWordsAreTheListedGroups : Obligations.UnknownWordsAreTheListedGroups := by
  refine fun op => ⟨fun h => (unknown_of_decode h).2, fun h => ?_⟩
  cases hd : decode op with
  | error e => rw [(unknown_of_decode hd).1]
  | ok i =>
    have hw : wellFormedWord op = true := encode_of_decode hd ▸ wellFormedWord_encode i
    exact absurd h (by simp [hw])

/-- Settles O5, by running the decoder on each word. -/
theorem sampleWordsDecode : Obligations.SampleWordsDecode := by
  unfold Obligations.SampleWordsDecode
  decide

end Sys2Proof
end

section
/-! SUPPORT. The report of a step by its cases, what the free draws and the clockspeed can reach, and
the statements about the execution cycle (40_execution_cycle) that follow. -/

namespace Sys2Proof.Machine

/-! ### The step and its report (40_execution_cycle R110 to R116) -/

theorem State.gated_of_not_running {s : State} (h : s.runState ≠ .running) : s.gated = true :=
  Bool.of_not_eq_false fun hg => h (State.gated_eq_false.1 hg)

theorem stepReport_of_gated {s : State} (h : s.gated = true) : stepReport s = .none := by
  simp [stepReport, h]

theorem stepReport_of_ok {s : State} (h : s.gated = false) (hf : s.fetchFaults = false) {i : Instr}
    (hd : decode s.fetchWord = .ok i) : stepReport s = reportOfResult (exec i s.advance) := by
  simp [stepReport, h, hf, hd]

theorem stepReport_of_error {s : State} (h : s.gated = false) (hf : s.fetchFaults = false)
    {e : DecodeError} (hd : decode s.fetchWord = .error e) :
    stepReport s = .unknownOpcode s.fetchWord s.pc := by
  simp [stepReport, h, hf, hd]

/-- A body that leaves no fault record reports nothing (60_exceptions R260). -/
theorem reportOfResult_of_fault_none {t : State} (h : t.fault = none) :
    reportOfResult (.next t) = .none := by simp [reportOfResult, h]

/-- Settles O7: a state that is not Running is gated. -/
theorem gatedStepDoesNothing : Obligations.GatedStepDoesNothing := fun _ h =>
  have hg := State.gated_of_not_running h
  ⟨step_of_gated hg, stepReport_of_gated hg⟩

/-- Settles O6: the step and its report by the decoded case; `advance` is the write of PC + 2. -/
theorem stepRunsDecodedInstruction : Obligations.StepRunsDecodedInstruction := by
  rintro s i ⟨hrun, hf⟩ hd
  have hg := State.gated_eq_false.2 hrun
  refine ⟨step_of_ok hg hf hd, fun t ht hnone => ?_⟩
  calc stepReport s
    _ = reportOfResult (exec i s.advance) := stepReport_of_ok hg hf hd
    _ = reportOfResult (.next t) := congrArg reportOfResult ht
    _ = .none := reportOfResult_of_fault_none hnone

/-- Settles O8: the step and its report by the unknown case; the advance leaves the run state. -/
theorem unknownOpcodeIsReportedAndSkipped : Obligations.UnknownOpcodeIsReportedAndSkipped := by
  rintro s e ⟨hrun, hf⟩ hd
  have hg := State.gated_eq_false.2 hrun
  exact ⟨step_of_error hg hf hd, hrun, stepReport_of_error hg hf hd⟩

/-! ### The free draws and the clockspeed (40_execution_cycle R118, 10_state R36) -/

/-- `s` with another draw counter and another clockspeed. -/
def State.withDrawsClock (s : State) (k hz : Nat) : State :=
  { s with drawCount := k, clockspeed := hz }

section
variable (s : State) (k hz : Nat)

/-! An update that branches or recurses acts alike on both states; the others do so by definition. -/

theorem State.skipIf_withDrawsClock (c : Bool) :
    (s.withDrawsClock k hz).skipIf c = (s.skipIf c).withDrawsClock k hz := by
  rw [skipIf_eq, skipIf_eq]; rfl

theorem State.setRegLogic_withDrawsClock (x : Nibble) (b : Byte) :
    (s.withDrawsClock k hz).setRegLogic x b = (s.setRegLogic x b).withDrawsClock k hz := by
  rw [setRegLogic, setRegLogic, apply_ite (withDrawsClock · k hz)]; rfl

theorem State.setIndexFlag_withDrawsClock (f : Bool) :
    (s.withDrawsClock k hz).setIndexFlag f = (s.setIndexFlag f).withDrawsClock k hz := by
  rw [setIndexFlag, setIndexFlag, apply_ite (withDrawsClock · k hz)]; rfl

theorem State.blockAdvance_withDrawsClock (x : Nibble) :
    (s.withDrawsClock k hz).blockAdvance x = (s.blockAdvance x).withDrawsClock k hz := by
  rw [blockAdvance_eq, blockAdvance_eq]; rfl

theorem State.writeBytes_withDrawsClock (a : Nat) (bs : List Byte) :
    (s.withDrawsClock k hz).writeBytes a bs = (s.writeBytes a bs).withDrawsClock k hz := by
  induction bs generalizing s a with
  | nil => rfl
  | cons b bs ih => exact ih (s.writeByte a b) (a + 1)

theorem State.loadRegs_withDrawsClock (a r n : Nat) :
    (s.withDrawsClock k hz).loadRegs a r n = (s.loadRegs a r n).withDrawsClock k hz := by
  induction n generalizing s r with
  | zero => rfl
  | succ n ih => exact ih (s.setReg (BitVec.ofNat 4 r) (s.readByte (a + r))) (r + 1)

end

/-- A body whose cause is raised answers fault entry (60_exceptions R264). -/
theorem exec_of_raises {s : State} {i : Instr} {c : FaultCause} (h : Raises s i c) :
    exec i s = .next (s.enterFault c (encode i) (s.pc - 2)) := by
  cases h with
  | underflow h => exact execRet_of_empty h
  | overflow nnn h => exact execCall_of_full nnn h
  | address h =>
    obtain ⟨-, hn, -⟩ := State.dataFaults_iff.1 h
    cases i
    case drw x y n => exact execDrw_of_faults x y n h
    case ldBVx x => exact execLdBVx_of_faults x h
    case ldMemVx x => exact execLdMemVx_of_faults x h
    case ldVxMem x => exact execLdVxMem_of_faults x h
    -- no other body accesses data
    all_goals exact absurd rfl hn

/-- What a body raises does not depend on the draws or the clockspeed. -/
theorem Raises.withDrawsClock {s : State} {i : Instr} {c : FaultCause} (h : Raises s i c)
    (k hz : Nat) : Raises (s.withDrawsClock k hz) i c := by
  cases h with
  | underflow h => exact .underflow h
  | overflow nnn h => exact .overflow nnn h
  | address h => exact .address h

/-- A body other than CXNN answers alike whatever the draw counter and the clockspeed are. -/
theorem exec_withDrawsClock {i : Instr} {s t : State} (hi : ∀ x nn, i ≠ .rnd x nn)
    (h : exec i s = .next t) (k hz : Nat) :
    exec i (s.withDrawsClock k hz) = .next (t.withDrawsClock k hz) := by
  cases runs_of_exec h
  case rnd x nn => exact absurd rfl (hi x nn)
  case raise c hc => exact exec_of_raises (hc.withDrawsClock k hz)
  case ret h0 hl => exact execRet_of_pos (s := s.withDrawsClock k hz) h0 hl
  case call nnn hl => exact execCall_of_lt (s := s.withDrawsClock k hz) nnn hl
  case drw x y n hd => exact execDrw_of_runs (s := s.withDrawsClock k hz) x y n hd
  case seImm | sneImm | seReg | sneReg | skp | sknp =>
    exact congrArg Host.Outcome.next (s.skipIf_withDrawsClock k hz _)
  case or | and | xor => exact congrArg Host.Outcome.next (s.setRegLogic_withDrawsClock k hz _ _)
  case addIVx x => exact congrArg Host.Outcome.next ((s.setI _).setIndexFlag_withDrawsClock k hz _)
  case ldBVx x hd =>
    rw [← State.writeBytes_withDrawsClock]
    exact execLdBVx_of_runs (s := s.withDrawsClock k hz) x hd
  case ldMemVx x hd =>
    rw [← State.blockAdvance_withDrawsClock, ← State.writeBytes_withDrawsClock]
    exact execLdMemVx_of_runs (s := s.withDrawsClock k hz) x hd
  case ldVxMem x hd =>
    rw [← State.blockAdvance_withDrawsClock, ← State.loadRegs_withDrawsClock]
    exact execLdVxMem_of_runs (s := s.withDrawsClock k hz) x hd
  -- every other body is one next state, in updates without branches
  all_goals rfl

/-- Only CXNN uses up a draw (42_alu R171). -/
theorem exec_drawCount {i : Instr} {s t : State} (hi : ∀ x nn, i ≠ .rnd x nn)
    (h : exec i s = .next t) : t.drawCount = s.drawCount := by
  cases runs_of_exec h
  case rnd x nn => exact absurd rfl (hi x nn)
  all_goals simp

/-- Settles O58: a body other than CXNN by `exec_withDrawsClock`, and with its own draws kept for the
clockspeed alone; CXNN reads no clockspeed by definition. -/
theorem drawsAndClockspeedDoNotInfluence : Obligations.DrawsAndClockspeedDoNotInfluence := by
  refine ⟨fun i s t k hz hi h => exec_withDrawsClock hi h k hz, fun i s t hz h => ?_⟩
  by_cases hr : ∃ x nn, i = .rnd x nn
  · obtain ⟨x, nn, rfl⟩ := hr
    cases h
    rfl
  · have hi : ∀ x nn, i ≠ .rnd x nn := fun x nn e => hr ⟨x, nn, e⟩
    have ht : t.withDrawsClock s.drawCount hz = t.setClockspeed hz := by
      rw [← exec_drawCount hi h]; rfl
    exact (exec_withDrawsClock hi h s.drawCount hz).trans (congrArg Host.Outcome.next ht)

end Sys2Proof.Machine
end

section
/-! SUPPORT. What a skip leaves in PC, and the statements about control transfer (41_control_flow). -/

namespace Sys2Proof.Machine

/-! ### Call and return (41_control_flow R130, R132) -/

/-- Settles O11: RET on an empty stack raises; on SP from 1 to 16 the entry at SP - 1 exists and is the
new PC. -/
theorem retPopsOrUnderflows : Obligations.RetPopsOrUnderflows := by
  refine fun s => ⟨fun h => ?_, fun hpos hle => ?_⟩
  · have h0 : s.sp = 0 := BitVec.eq_of_toNat_eq h
    exact ⟨_, execRet_of_empty h0, faultEntered_enterFault s _ _ _⟩
  · have h0 : s.sp ≠ 0 := fun e => by simp [e] at hpos
    have hsp := sp_sub_one_toNat h0
    have hl : (s.sp - 1).toNat < 16 := by omega
    refine ⟨_, _, execRet_of_pos h0 hl, ?_, rfl, hsp, rfl,
      (frame_setSp _ (by simp)).trans (frame_setPc _ (by simp))⟩
    rw [← hsp]
    exact Vector.getElem?_eq_getElem hl

/-- Settles O12: CALL on a full stack raises; below that it writes the one entry at SP. -/
theorem callPushesOrOverflows : Obligations.CallPushesOrOverflows := by
  refine fun nnn s => ⟨fun h => ?_, fun hl => ?_⟩
  · have hfull : s.sp = 16 := BitVec.eq_of_toNat_eq h
    exact ⟨_, execCall_of_full nnn hfull, faultEntered_enterFault s _ _ _⟩
  · exact ⟨_, execCall_of_lt nnn hl, Vector.getElem?_set_self hl,
      fun _ hk => Vector.getElem?_set_ne hl hk.symm, sp_add_one_toNat hl, zext16_toNat nnn,
      ((frame_setStack _ _ hl (by simp)).trans (frame_setSp _ (by simp))).trans
        (frame_setPc _ (by simp))⟩

/-! ### Jumps (41_control_flow R131, R137) -/

/-- Settles O14: both jumps are one write of PC, and BNNN's sum needs no reduction. -/
theorem jumpsOverwritePc : Obligations.JumpsOverwritePc := fun nnn _ =>
  ⟨⟨_, rfl, zext16_toNat nnn, frame_setPc _ (by simp)⟩,
    ⟨_, rfl, jpV0_target_toNat _ nnn, frame_setPc _ (by simp)⟩⟩

/-! ### Skips (41_control_flow R133 to R136, R138) -/

section
variable (s : State) {c : Bool} {p : Prop} [Decidable p]

/-- A skip moves PC past the next word when its condition holds. -/
theorem State.pc_skipIf (h : c = true ↔ p) :
    (s.skipIf c).pc = if p then s.pc + 2 else s.pc := by
  rw [skipIf_pc]
  simp only [h]

/-- The same, by the condition under which there is no skip. -/
theorem State.pc_skipIf_not (h : c = false ↔ p) :
    (s.skipIf c).pc = if p then s.pc else s.pc + 2 := by
  rw [s.pc_skipIf (p := ¬p) (by rw [← h, Bool.not_eq_false]), ite_not]

end

/-- Settles O15: each skip's condition is its Boolean test of V[x] and nn, and a skip writes PC only. -/
theorem immediateSkips : Obligations.ImmediateSkips := fun _ _ s =>
  ⟨⟨_, rfl, s.pc_skipIf beq_iff_eq, frame_skipIf _ (by simp)⟩,
    ⟨_, rfl, s.pc_skipIf_not bne_eq_false_iff_eq, frame_skipIf _ (by simp)⟩⟩

/-- Settles O16: each skip's condition is its Boolean test of V[x] and V[y], and a skip writes PC only. -/
theorem registerSkips : Obligations.RegisterSkips := fun _ _ s =>
  ⟨⟨_, rfl, s.pc_skipIf beq_iff_eq, frame_skipIf _ (by simp)⟩,
    ⟨_, rfl, s.pc_skipIf_not bne_eq_false_iff_eq, frame_skipIf _ (by simp)⟩⟩

end Sys2Proof.Machine
end

section
/-! SUPPORT. What the two ALU write-backs leave, the flags and results as numbers, and the
statements about the ALU (42_alu). -/

namespace Sys2Proof.Machine

/-! ### The write-backs (42_alu head, 10_state R22, R23) -/

section
variable {s : State} {x : Nibble} {b : Byte}

/-- A result written first and a flag last, whatever they are the values of. -/
theorem flagResult_setRegFlag {f : Bool} {result : Nat} {flag : Prop} (hb : b.toNat = result)
    (hf : f = true ↔ flag) : FlagResult s (s.setRegFlag x b f) x result flag := by
  have hvf : (s.setRegFlag x b f).reg VF = flagByte f := by rw [State.reg_setRegFlag, if_pos rfl]
  refine ⟨fun h => ?_, fun h => ?_, fun hx => ?_,
    (frame_setReg x b (by simp)).trans (frame_setReg VF _ (by simp))⟩
  · rw [hvf, hf.2 h]; rfl
  · rw [hvf, Bool.eq_false_iff.2 (mt hf.1 h)]; rfl
  · rw [State.reg_setRegFlag, if_neg hx, if_pos rfl, hb]

/-- A logic result, and the zero in VF under the quirk. -/
theorem logicResult_setRegLogic {result : Byte} (hb : b = result) :
    LogicResult s (s.setRegLogic x b) x result := by
  subst hb
  unfold LogicResult
  split
  next hq =>
    refine ⟨?_, fun hx => ?_, ?_⟩
    · rw [State.reg_setRegLogic, if_pos ⟨hq, rfl⟩]
    · rw [State.reg_setRegLogic, if_neg fun h => hx h.2, if_pos rfl]
    · rw [State.setRegLogic, if_pos hq]
      exact (frame_setReg x b (by simp)).trans (frame_setReg VF _ (by simp))
  next hq =>
    rw [State.setRegLogic, if_neg hq]
    exact ⟨s.reg_setReg_self x b, frame_setReg x b (by simp)⟩

end

/-! ### Flags and results as numbers (42_alu R166 to R170) -/

theorem addCarry_iff {a b : Byte} : addCarry a b = true ↔ 255 < a.toNat + b.toNat :=
  decide_eq_true_iff

theorem notBorrow_iff {a b : Byte} : notBorrow a b = true ↔ b.toNat ≤ a.toNat := decide_eq_true_iff

theorem shiftedOutRight_iff {b : Byte} : shiftedOutRight b = true ↔ b.toNat % 2 = 1 := by
  rw [shiftedOutRight, BitVec.getLsbD, Nat.testBit_zero, decide_eq_true_iff]

theorem shiftedOutLeft_iff {b : Byte} : shiftedOutLeft b = true ↔ 128 ≤ b.toNat := by
  rw [shiftedOutLeft, ← BitVec.msb_eq_getLsbD_last b, BitVec.msb_eq_decide, decide_eq_true_iff]

theorem byte_sub_toNat (a b : Byte) : (a - b).toNat = (256 + a.toNat - b.toNat) % 256 := by
  have := b.isLt
  rw [BitVec.toNat_sub]
  omega

theorem byte_shiftRight_one_toNat (b : Byte) : (b >>> 1).toNat = b.toNat / 2 := by
  rw [BitVec.toNat_ushiftRight, Nat.shiftRight_one]

theorem byte_shiftLeft_one_toNat (b : Byte) : (b <<< 1).toNat = b.toNat * 2 % 256 := by
  rw [BitVec.toNat_shiftLeft, Nat.shiftLeft_eq]

/-! ### Loads, the add immediate and the random byte (42_alu R160 to R162, R171) -/

/-- Settles O18: each is one register write. -/
theorem loadImmediateAndCopy : Obligations.LoadImmediateAndCopy := fun x _ _ s =>
  ⟨⟨_, rfl, s.reg_setReg_self x _, frame_setReg x _ (by simp)⟩,
    ⟨_, rfl, s.reg_setReg_self x _, frame_setReg x _ (by simp)⟩⟩

/-- Settles O19: one register write, of the sum modulo 256. -/
theorem addImmediateWrapsWithoutFlag : Obligations.AddImmediateWrapsWithoutFlag := fun x nn s =>
  ⟨_, rfl, by rw [State.reg_setReg_self, BitVec.toNat_add], frame_setReg x _ (by simp)⟩

/-- Settles O26: one register write, of the masked draw, and the draw is counted. -/
theorem randomByteUnderMask : Obligations.RandomByteUnderMask := by
  intro x nn s
  have hx : ((s.setReg x (s.drawnByte &&& nn)).countDraw).reg x = s.drawnByte &&& nn := by
    rw [State.reg_countDraw, State.reg_setReg_self]
  refine ⟨_, rfl, hx, ?_, ?_, rfl,
    (frame_setReg x _ (by simp)).trans (frame_countDraw (by simp))⟩
  · rintro rfl
    exact hx.trans BitVec.and_zero
  · rintro rfl
    exact hx.trans BitVec.and_allOnes

/-! ### The 8 group (42_alu R163 to R170) -/

/-- Settles O20: the three differ in the result only. -/
theorem logicOperations : Obligations.LogicOperations := fun _ _ _ =>
  ⟨⟨_, rfl, logicResult_setRegLogic rfl⟩, ⟨_, rfl, logicResult_setRegLogic rfl⟩,
    ⟨_, rfl, logicResult_setRegLogic rfl⟩⟩

/-- Settles O21: the flag is the carry of the sum. -/
theorem addSetsCarry : Obligations.AddSetsCarry := fun _ _ _ =>
  ⟨_, rfl, flagResult_setRegFlag (BitVec.toNat_add _ _) addCarry_iff⟩

/-- Settles O22: the flag is the not-borrow of the difference. -/
theorem subtractSetsNotBorrow : Obligations.SubtractSetsNotBorrow := fun _ _ _ =>
  ⟨_, rfl, flagResult_setRegFlag (byte_sub_toNat _ _) notBorrow_iff⟩

/-- Settles O23: the flag is the not-borrow of the reverse difference. -/
theorem reverseSubtractSetsNotBorrow : Obligations.ReverseSubtractSetsNotBorrow := fun _ _ _ =>
  ⟨_, rfl, flagResult_setRegFlag (byte_sub_toNat _ _) notBorrow_iff⟩

/-- Settles O24: the source is the one the quirk selects, and the flag the bit shifted out of it. -/
theorem shiftsCaptureTheShiftedOutBit : Obligations.ShiftsCaptureTheShiftedOutBit := by
  rintro x y s _ rfl
  exact ⟨⟨_, rfl, flagResult_setRegFlag (byte_shiftRight_one_toNat _) shiftedOutRight_iff⟩,
    ⟨_, rfl, flagResult_setRegFlag (byte_shiftLeft_one_toNat _) shiftedOutLeft_iff⟩⟩

/-! ### The 8 group with x = y (42_alu R173) -/

/-- Writing a register's own value leaves the state (42_alu R162). -/
theorem State.setReg_reg_self (s : State) (x : Nibble) : s.setReg x (s.reg x) = s := by
  rw [setReg, reg, Vector.set_getElem_self]

/-- With x = y the shift quirk selects nothing. -/
theorem State.shiftSource_self (s : State) (x : Nibble) : s.shiftSource x x = s.reg x := ite_self _

/-- A byte's doubling carries out of bit 7. -/
theorem addCarry_self (b : Byte) : addCarry b b = b.getLsbD 7 := by
  change addCarry b b = shiftedOutLeft b
  rw [Bool.eq_iff_iff, addCarry_iff, shiftedOutLeft_iff]
  omega

theorem notBorrow_self (b : Byte) : notBorrow b b = true := notBorrow_iff.2 le_rfl

/-- Settles O25: each row is its instruction's write-back, on equal operands. -/
theorem sameRegisterTable : Obligations.SameRegisterTable := by
  intro x s
  refine ⟨⟨_, rfl, ?ldReg⟩, ⟨_, rfl, ?or⟩, ⟨_, rfl, ?and⟩, ⟨_, rfl, ?xor⟩, ⟨_, rfl, ?addReg⟩,
    ⟨_, rfl, ?sub⟩, ⟨_, rfl, ?subn⟩, ⟨_, rfl, ?shr⟩, ⟨_, rfl, ?shl⟩⟩
  case ldReg => rw [s.setReg_reg_self]; exact frame_refl
  case or => exact logicResult_setRegLogic BitVec.or_self
  case and => exact logicResult_setRegLogic BitVec.and_self
  case xor => exact logicResult_setRegLogic BitVec.xor_self
  case addReg =>
    exact flagResult_setRegFlag (by rw [BitVec.toNat_add, two_mul]) (by rw [addCarry_self])
  case sub | subn =>
    exact flagResult_setRegFlag (by rw [BitVec.sub_self]; rfl) (iff_true_intro (notBorrow_self _))
  case shr =>
    rw [s.shiftSource_self]
    exact flagResult_setRegFlag (byte_shiftRight_one_toNat _) Iff.rfl
  case shl =>
    rw [s.shiftSource_self]
    exact flagResult_setRegFlag (byte_shiftLeft_one_toNat _) Iff.rfl

end Sys2Proof.Machine
end

section
/-! SUPPORT. The index register's new values as numbers, the frames of FX1E's flag and of the block
load, a stored block read back, and the statements about the index and memory instructions
(43_index_memory). -/

namespace Sys2Proof.Machine

/-! ### The index register (43_index_memory R190 to R192) -/

/-- FX29's product needs no reduction (43_index_memory R192). -/
theorem byteToWord_mul_five_toNat (b : Byte) : (byteToWord b * 5).toNat = b.toNat * 5 := by
  have hlt : b.toNat * 5 < 65536 := by have := b.isLt; omega
  rw [BitVec.toNat_mul, byteToWord_toNat]
  exact Nat.mod_eq_of_lt hlt

/-- Settles O28: each is one write of I. -/
theorem loadIndex : Obligations.LoadIndex := fun _ nnn _ =>
  ⟨⟨_, rfl, zext16_toNat nnn, frame_setI _ (by simp)⟩,
    ⟨_, rfl, byteToWord_mul_five_toNat _, frame_setI _ (by simp)⟩⟩

theorem flagByte_decide (p : Prop) [Decidable p] : flagByte (decide p) = if p then 1 else 0 := by
  simp only [flagByte, decide_eq_true_iff]

section
variable {s : State} {regs : List Nibble} {parts : List Part}

/-- FX1E's flag write leaves all but VF, and VF too without the quirk (43_index_memory R191). -/
theorem frame_setIndexFlag (f : Bool) (h : s.quirks.fx1eSetsVf = true → VF ∈ regs) :
    Frame s (s.setIndexFlag f) regs parts :=
  frame_of_v (s.setIndexFlag_eq f) fun q hq => by
    rw [State.reg_setIndexFlag, if_neg]
    rintro ⟨hf, rfl⟩
    exact hq (h hf)

/-- FX65's register writes leave the registers that are not loaded (43_index_memory R195). -/
theorem frame_loadRegs_block (a : Nat) (x : Nibble) (h : ∀ q : Nibble, q.toNat ≤ x.toNat → q ∈ regs) :
    Frame s (s.loadRegs a 0 (x.toNat + 1)) regs parts :=
  frame_of_v (s.loadRegs_eq a 0 _) fun q hq => by
    rw [State.reg_loadRegs_block, if_neg (mt (h q) hq)]

end

/-- Settles O29: I is written first, then the flag of the exact sum under the quirk. -/
theorem addIndexSetsFlagUnderQuirk : Obligations.AddIndexSetsFlagUnderQuirk := by
  intro x s
  refine ⟨_, rfl, ?_, ?_⟩
  · rw [State.setIndexFlag_i, State.setI_i, BitVec.toNat_add, byteToWord_toNat]
  split
  next hq =>
    refine ⟨?_, (frame_setI _ (by simp)).trans (frame_setIndexFlag _ (by simp))⟩
    rw [State.reg_setIndexFlag, if_pos ⟨hq, rfl⟩, indexOverflow, flagByte_decide]
  next hq => exact (frame_setI _ (by simp)).trans (frame_setIndexFlag _ fun h => absurd h hq)

/-- I after a block transfer, as a number (43_index_memory R194, R195). -/
theorem State.blockAdvance_i_toNat (s : State) (x : Nibble) :
    (s.blockAdvance x).i.toNat =
      if s.quirks.loadStoreIncrementsI then (s.i.toNat + x.toNat + 1) % 65536 else s.i.toNat := by
  rw [blockAdvance_i, apply_ite BitVec.toNat, BitVec.toNat_add, BitVec.toNat_ofNat,
    Nat.add_mod_mod, ← Nat.add_assoc]

/-! ### Data accesses out of range (20_memory R62) -/

/-- A body whose data accesses are not all allowed faults before any of them (43_index_memory R196). -/
theorem exec_of_not_inRange {i : Instr} {s : State} (h : ¬InRange s (dataBytes i)) :
    ∃ t, exec i s = .next t ∧ FaultEntered s t .addressFault (encode i) (s.pc - 2) := by
  rw [inRange_iff, Bool.not_eq_false] at h
  exact ⟨_, exec_of_raises (.address h), faultEntered_enterFault s _ _ _⟩

/-! ### Stores (43_index_memory R193, R194) -/

theorem byte_ofNat_toNat {n : Nat} (h : n < 256) : (BitVec.ofNat 8 n).toNat = n := by
  rw [BitVec.toNat_ofNat]; exact Nat.mod_eq_of_lt h

/-- Settles O30: the digits are stored as three bytes and read back, each below 256. -/
theorem bcdStoresThreeDigits : Obligations.BcdStoresThreeDigits := by
  refine fun x s hm => ⟨fun hr => ?_, exec_of_not_inRange (i := .ldBVx x)⟩
  have hb := (s.reg x).isLt
  have hread : ∀ {k : Nat} (hk : k < 3),
      (s.writeBytes s.i.toNat (bcdDigits (s.reg x))).readByte (s.i.toNat + k) =
        (bcdDigits (s.reg x))[k] := fun hk =>
    State.readByte_writeBytes hm (by simp [bcdDigits]) hk
  refine ⟨_, execLdBVx_of_runs x (inRange_iff.1 hr), ?hundreds, ?tens, ?ones,
    fun _ ha => State.readByte_writeBytes_of_ne hm ha, frame_writeBytes _ _ (by simp)⟩
  case hundreds => exact (congrArg _ (hread (k := 0) (by omega))).trans (byte_ofNat_toNat (by omega))
  case tens => exact (congrArg _ (hread (k := 1) (by omega))).trans (byte_ofNat_toNat (by omega))
  case ones => exact (congrArg _ (hread (k := 2) (by omega))).trans (byte_ofNat_toNat (by omega))

theorem nibble_ofNat_toNat (q : Nibble) : BitVec.ofNat 4 q.toNat = q := by
  rw [BitVec.ofNat_toNat, BitVec.setWidth_eq]

/-- The block that FX55 stores reads back as the registers it was stored from (43_index_memory R194). -/
theorem State.readByte_writeBytes_regBlock {s : State} (hm : Memory.wf s.mem = true) (a : Nat)
    {x q : Nibble} (hq : q.toNat ≤ x.toNat) :
    (s.writeBytes a (s.regBlock (x.toNat + 1))).readByte (a + q.toNat) = s.reg q := by
  have := x.isLt
  rw [readByte_writeBytes hm (by rw [length_regBlock]; omega) (by rw [length_regBlock]; omega),
    getElem_regBlock, nibble_ofNat_toNat]

/-- Settles O31: the block is stored and read back, then I is advanced. -/
theorem blockStoreWritesRegisters : Obligations.BlockStoreWritesRegisters := by
  refine fun x s hm => ⟨fun hr => ?_, exec_of_not_inRange (i := .ldMemVx x)⟩
  refine ⟨_, execLdMemVx_of_runs x (inRange_iff.1 hr), fun q hq => ?_, fun a ha => ?_, ?_,
    (frame_writeBytes _ _ (by simp)).trans (frame_blockAdvance x (by simp))⟩
  · rw [State.readByte_blockAdvance, State.readByte_writeBytes_regBlock hm _ hq]
  · rw [State.readByte_blockAdvance, State.readByte_writeBytes_of_ne hm]
    rw [State.length_regBlock]
    exact fun k hk => ha k (Nat.le_of_lt_succ hk)
  · rw [State.blockAdvance_i_toNat, State.writeBytes_quirks, State.writeBytes_i]

/-! ### Loads (43_index_memory R195) -/

/-- V0 to Vx are the registers numbered up to x (30_encoding R84). -/
theorem mem_range_map_ofNat {q : Nibble} {n : Nat} (h : q.toNat < n) :
    q ∈ (List.range n).map (BitVec.ofNat 4) :=
  List.mem_map.2 ⟨q.toNat, List.mem_range.2 h, nibble_ofNat_toNat q⟩

/-- Settles O32: the block is loaded, then I is advanced. -/
theorem blockLoadReadsMemory : Obligations.BlockLoadReadsMemory := by
  refine fun x s => ⟨fun hr => ?_, exec_of_not_inRange (i := .ldVxMem x)⟩
  refine ⟨_, execLdVxMem_of_runs x (inRange_iff.1 hr), fun q => ?_, ?_, ?_⟩
  · rw [State.reg_blockAdvance, State.reg_loadRegs_block]
  · rw [State.blockAdvance_i_toNat, State.loadRegs_quirks, State.loadRegs_i]
  · exact (frame_loadRegs_block _ x fun q hq => mem_range_map_ofNat (Nat.lt_succ_of_le hq)).trans
      (frame_blockAdvance x (by simp))

/-- Whether data accesses fault depends on I and the policy only (20_memory R62). -/
theorem State.dataFaults_congr {s u : State} (hi : u.i = s.i) (hp : u.oobPolicy = s.oobPolicy)
    (count : Nat) : u.dataFaults count = s.dataFaults count := by
  rw [dataFaults, hi, hp]; rfl

/-- Settles O33: neither faults, so FX65 reads from the stored block, which is the registers of FX55. -/
theorem blockLoadAfterBlockStore : Obligations.BlockLoadAfterBlockStore := by
  intro x s t u w hm _ ht hnone hmem hi hp hw q hq
  cases runs_of_exec ht
  case raise => simp at hnone
  case ldMemVx h =>
    cases hw.symm.trans (execLdVxMem_of_runs x ((State.dataFaults_congr hi hp _).trans h))
    calc ((u.loadRegs u.i.toNat 0 (x.toNat + 1)).blockAdvance x).reg q
      _ = u.readByte (s.i.toNat + q.toNat) := by
        rw [State.reg_blockAdvance, State.reg_loadRegs_block, if_pos hq, hi]
      _ = ((s.writeBytes s.i.toNat (s.regBlock (x.toNat + 1))).blockAdvance x).readByte
          (s.i.toNat + q.toNat) := by rw [State.readByte, hmem]; rfl
      _ = s.reg q := by
        rw [State.readByte_blockAdvance, State.readByte_writeBytes_regBlock hm _ hq]

end Sys2Proof.Machine
end

section
/-! SUPPORT. The state a draw leaves, by its pixels, its collision flag and its frame; and the
statements about the display and the observables (44_display). -/

namespace Sys2Proof.Machine

/-! ### CLS and the observables (44_display R210, R220, 45_timers_keys R242) -/

/-- Settles O35: the screen is replaced by the blank one, and only the screen. -/
theorem clsClearsEveryPixel : Obligations.ClsClearsEveryPixel := fun _ =>
  ⟨_, rfl, Screen.pixel_blank, frame_setPix _ (by simp)⟩

theorem State.readPixel_of_lt (s : State) (c : Fin 64) (r : Fin 32) :
    s.readPixel c.val r.val = some (s.pixel c r) := dif_pos ⟨c.isLt, r.isLt⟩

theorem State.readPixel_of_le (s : State) {c r : Nat} (h : 64 ≤ c ∨ 32 ≤ r) :
    s.readPixel c r = none := dif_neg (by omega)

theorem State.soundActive_iff {s : State} : s.soundActive = true ↔ s.st ≠ 0 := by
  rw [soundActive, decide_eq_true_iff, Nat.pos_iff_ne_zero]
  exact not_congr (BitVec.toNat_inj (y := 0#8))

/-- Settles O50: the bounds check of `read_pixel` by its two cases, and the sound line. -/
theorem observablesReadTheState : Obligations.ObservablesReadTheState := fun s =>
  ⟨s.readPixel_of_lt, fun _ _ => s.readPixel_of_le, State.soundActive_iff⟩

/-! ### What a draw leaves (44_display R211 to R216) -/

/-- The state that DXYN answers when its sprite is in range: the drawn screen, then the collision
(44_display R211). -/
def State.draw (s : State) (cx cy : Byte) (n : Nat) : State :=
  (s.setPix (drawTargets s.pix (s.spriteTargets cx cy n)).1).setReg VF
    (flagByte (drawTargets s.pix (s.spriteTargets cx cy n)).2)

theorem exec_drw_of_inRange {x y n : Nibble} {s : State} (h : InRange s n.toNat) :
    exec (.drw x y n) s = .next (s.draw (s.reg x) (s.reg y) n.toNat) :=
  execDrw_of_runs x y n (inRange_iff.1 h)

theorem State.frame_draw (s : State) (cx cy : Byte) (n : Nat) :
    Frame s (s.draw cx cy n) [VF] [.screen] :=
  (frame_setPix _ (by simp)).trans (frame_setReg VF _ (by simp))

theorem flagByte_eq_one {f : Bool} : flagByte f = 1 ↔ f = true := by cases f <;> decide

theorem flagByte_eq_zero {f : Bool} : flagByte f = 0 ↔ f = false := by cases f <;> decide

section
variable {s : State} {cx cy : Byte} {n : Nat}

/-- A draw is the XOR with the placed sprite (44_display R214). -/
theorem State.pixel_draw (hn : n ≤ 32) (c : Fin 64) (r : Fin 32) :
    (s.draw cx cy n).pixel c r = (s.pixel c r ^^ decide ((c, r) ∈ s.spriteTargets cx cy n)) :=
  pixel_drawTargets (s.nodup_spriteTargets cx cy hn) s.pix c r

/-- VF is 1 after a collision: a set pixel under the sprite (44_display R215). -/
theorem State.reg_VF_draw_eq_one (hn : n ≤ 32) :
    (s.draw cx cy n).reg VF = 1 ↔ ∃ c r, (c, r) ∈ s.spriteTargets cx cy n ∧ s.pixel c r = true := by
  rw [draw, reg_setReg_self, flagByte_eq_one,
    collision_drawTargets (s.nodup_spriteTargets cx cy hn), List.any_eq_true, Prod.exists]
  rfl

theorem State.reg_VF_draw_eq_zero (hn : n ≤ 32) :
    (s.draw cx cy n).reg VF = 0 ↔ ∀ c r, (c, r) ∈ s.spriteTargets cx cy n → s.pixel c r = false := by
  rw [draw, reg_setReg_self, flagByte_eq_zero,
    collision_drawTargets (s.nodup_spriteTargets cx cy hn), List.any_eq_false, Prod.forall]
  simp only [Bool.not_eq_true]
  rfl

end

theorem nibble_toNat_le (n : Nibble) : n.toNat ≤ 32 := by have := n.isLt; omega

/-- Settles O36: the pixels by the XOR, VF by the collision, and the fault by `exec_of_not_inRange`. -/
theorem drawXorsTheSprite : Obligations.DrawXorsTheSprite := by
  refine fun x y n s => ⟨fun hr => ?_, exec_of_not_inRange (i := .drw x y n)⟩
  have hn := nibble_toNat_le n
  simp only [← mem_spriteTargets_iff]
  refine ⟨_, exec_drw_of_inRange hr, fun c r => ?_, (State.reg_VF_draw_eq_one hn).2,
    (State.reg_VF_draw_eq_zero hn).2, s.frame_draw _ _ _⟩
  rw [State.pixel_draw hn]
  exact ⟨fun hc => by rw [decide_eq_true hc, Bool.xor_true],
    fun hc => by rw [decide_eq_false hc, Bool.xor_false]⟩

/-! ### Two draws, and a draw of no rows (44_display R217, R219) -/

/-- Where a sprite lands depends on the memory, I, the coordinates and `wrap_sprites` only. -/
theorem State.spriteTargets_congr {s t : State} (hm : t.mem = s.mem) (hi : t.i = s.i)
    (hw : t.quirks.wrapSprites = s.quirks.wrapSprites) (cx cy : Byte) (n : Nat) :
    t.spriteTargets cx cy n = s.spriteTargets cx cy n := by
  simp only [spriteTargets, readByte, hm, hi, hw]

/-- The pixels of a draw that are now set under the sprite are those it turned on (44_display R219). -/
theorem State.mem_spriteTargets_and_pixel_draw {s : State} {cx cy : Byte} {n : Nat} (hn : n ≤ 32)
    (c : Fin 64) (r : Fin 32) :
    (c, r) ∈ s.spriteTargets cx cy n ∧ (s.draw cx cy n).pixel c r = true ↔
      s.pixel c r = false ∧ (s.draw cx cy n).pixel c r = true := by
  rw [pixel_draw hn]
  cases s.pixel c r <;> simp

/-- Settles O37: both draws XOR the screen with the same placed sprite, and the second collides on the
pixels that the first turned on. -/
theorem drawTwiceRestoresTheScreen : Obligations.DrawTwiceRestoresTheScreen := by
  intro x y n s t t' u hr ht hpix hmem hi hp hw hx hy hu
  have hn := nibble_toNat_le n
  cases (exec_drw_of_inRange hr).symm.trans ht
  have hr' : InRange t' n.toNat :=
    inRange_iff.2 ((State.dataFaults_congr hi hp _).trans (inRange_iff.1 hr))
  cases (exec_drw_of_inRange hr').symm.trans hu
  have hts : t'.spriteTargets (t'.reg x) (t'.reg y) n.toNat =
      s.spriteTargets (s.reg x) (s.reg y) n.toNat := by
    rw [hx, hy]
    exact State.spriteTargets_congr hmem hi hw _ _ _
  have hpx (c r) : t'.pixel c r = (s.draw (s.reg x) (s.reg y) n.toNat).pixel c r :=
    congrArg (Screen.pixel · c r) hpix
  constructor
  · intro c r
    rw [State.pixel_draw hn, hts, hpx, State.pixel_draw hn, Bool.xor_assoc, Bool.xor_self,
      Bool.xor_false]
  · rw [State.reg_VF_draw_eq_one hn, hts]
    simp only [hpx, State.mem_spriteTargets_and_pixel_draw hn]

/-- A sprite of no rows only clears VF (44_display R217). -/
theorem State.draw_zero (s : State) (cx cy : Byte) : s.draw cx cy 0 = s.setReg VF 0 := rfl

/-- Settles O38: no data byte is used, so no policy faults, and the draw is a write of VF. -/
theorem drawOfZeroRows : Obligations.DrawOfZeroRows := by
  intro x y s
  have hr : InRange s (0 : Nibble).toNat := fun _ h => absurd rfl h
  exact ⟨_, (exec_drw_of_inRange hr).trans (congrArg _ (s.draw_zero _ _)), s.reg_setReg_self VF 0,
    frame_setReg VF 0 (by simp)⟩

end Sys2Proof.Machine
end

section
/-! SUPPORT. What a press and a release do to the key bits and to a wait, a timer's countdown as a
number, and the statements about timers and keys (45_timers_keys). -/

namespace Sys2Proof.Machine

/-! ### Key skips and timers (45_timers_keys R230 to R235, R240) -/

/-- Settles O17: both skips test `keyHeld`, which is the stated condition, and a skip writes PC only. -/
theorem keySkips : Obligations.KeySkips := fun _ s =>
  ⟨⟨_, rfl, s.pc_skipIf State.keyHeld_iff, frame_skipIf _ (by simp)⟩,
    ⟨_, rfl, s.pc_skipIf_not ((Bool.not_eq_false' _).to_iff.trans State.keyHeld_iff),
      frame_skipIf _ (by simp)⟩⟩

/-- Settles O39: FX07 is one register write, FX15 and FX18 one timer write each. -/
theorem timerInstructions : Obligations.TimerInstructions := fun x s =>
  ⟨⟨_, rfl, s.reg_setReg_self x _, frame_setReg x _ (by simp)⟩,
    ⟨_, rfl, rfl, frame_setDt _ (by simp)⟩, ⟨_, rfl, rfl, frame_setSt _ (by simp)⟩⟩

/-- A countdown is the subtraction that stops at zero (45_timers_keys R240). -/
theorem countDown_toNat (b : Byte) : (countDown b).toNat = b.toNat - 1 := by
  unfold countDown
  split
  next h => rw [h]; rfl
  next h =>
    have hpos : 1 ≤ b.toNat := Nat.pos_of_ne_zero fun e => h (BitVec.eq_of_toNat_eq e)
    exact BitVec.toNat_sub_of_le hpos

/-- Settles O41: a tick is one countdown of each timer. -/
theorem tickCountsBothTimersDown : Obligations.TickCountsBothTimersDown := fun s =>
  ⟨s.tick, rfl, countDown_toNat s.dt, countDown_toNat s.st,
    (frame_setDt _ (by simp)).trans (frame_setSt _ (by simp))⟩

/-! ### The key wait (45_timers_keys R236) -/

theorem State.runState_eq_waitingForKey {s : State} {r : Nibble} :
    s.runState = .waitingForKey r ↔ s.fault = none ∧ s.keyWaiting = true ∧ s.regWaiting = r := by
  unfold runState
  cases s.fault <;> cases s.keyWaiting <;> simp

theorem State.runState_startWait {s : State} (h : s.fault = none) (r : Nibble) :
    (s.startWait r).runState = .waitingForKey r := runState_eq_waitingForKey.2 ⟨h, rfl, rfl⟩

/-- Settles O40: the body is the entry into the wait, which makes the run state where there is no fault. -/
theorem keyWaitIsEntered : Obligations.KeyWaitIsEntered := fun x _ =>
  ⟨_, rfl, rfl, rfl, (State.runState_startWait · x), frame_startWait x (by simp)⟩

/-! ### Press and release (45_timers_keys R245 to R247) -/

/-- The one bit of key k. -/
theorem getLsbD_keyBit {j k : Nat} (hj : j < 16) : (1#16 <<< k).getLsbD j = decide (j = k) := by
  rw [← BitVec.twoPow_eq, BitVec.getLsbD_twoPow, Bool.eq_iff_iff, Bool.and_eq_true,
    decide_eq_true_iff, decide_eq_true_iff, decide_eq_true_iff]
  omega

section
variable {s : State} {k : Nat}

theorem State.keyDown_of_lt (hk : k < 16) : s.keyDown k = s.setKeys (s.keys ||| (1#16 <<< k)) :=
  if_pos hk

theorem State.keyDown_of_le (hk : 16 ≤ k) : s.keyDown k = s := if_neg (not_lt.2 hk)

theorem State.keyUp_of_le (hk : 16 ≤ k) : s.keyUp k = s := if_neg (not_lt.2 hk)

/-- A release that resolves a wait (45_timers_keys R247). -/
theorem State.keyUp_of_waiting (hk : k < 16) {r : Nibble} (h : s.runState = .waitingForKey r) :
    s.keyUp k = ((s.releaseKey k).setReg r (BitVec.ofNat 8 k)).endWait := by
  simp [keyUp, hk, h]

/-- A release outside a wait (45_timers_keys R246). -/
theorem State.keyUp_of_not_waiting (hk : k < 16) (h : ∀ r, s.runState ≠ .waitingForKey r) :
    s.keyUp k = s.releaseKey k := by
  rw [keyUp, if_pos hk]
  split
  next r hr => exact absurd hr (h r)
  · rfl
  · rfl

/-- Every release of a key clears its bit, whatever the run state. -/
theorem State.keys_keyUp (hk : k < 16) : (s.keyUp k).keys = s.keys &&& ~~~(1#16 <<< k) := by
  by_cases h : ∃ r, s.runState = .waitingForKey r
  · obtain ⟨r, hr⟩ := h
    rw [keyUp_of_waiting hk hr]; rfl
  · rw [keyUp_of_not_waiting hk (not_exists.1 h)]; rfl

theorem State.getLsbD_keys_keyUp (hk : k < 16) {j : Nat} (hj : j < 16) :
    (s.keyUp k).keys.getLsbD j = (s.keys.getLsbD j && !decide (j = k)) := by
  rw [keys_keyUp hk, BitVec.getLsbD_and, BitVec.getLsbD_not, decide_eq_true hj, Bool.true_and,
    getLsbD_keyBit hj]

theorem State.getLsbD_keys_keyDown (hk : k < 16) {j : Nat} (hj : j < 16) :
    (s.keyDown k).keys.getLsbD j = (s.keys.getLsbD j || decide (j = k)) := by
  rw [keyDown_of_lt hk, setKeys_keys, BitVec.getLsbD_or, getLsbD_keyBit hj]

/-- A press never ends a wait. -/
theorem State.runState_keyDown : (s.keyDown k).runState = s.runState := by
  unfold keyDown; split <;> rfl

theorem State.runState_keyUp_of_waiting (hk : k < 16) {r : Nibble}
    (h : s.runState = .waitingForKey r) : (s.keyUp k).runState = .running := by
  obtain ⟨hf, -⟩ := runState_eq_waitingForKey.1 h
  rw [keyUp_of_waiting hk h]
  exact runState_eq_running.2 ⟨hf, rfl⟩

/-- The register that waited takes the key's number. -/
theorem State.reg_keyUp_of_waiting (hk : k < 16) {r : Nibble} (h : s.runState = .waitingForKey r) :
    ((s.keyUp k).reg r).toNat = k := by
  rw [keyUp_of_waiting hk h, reg_endWait, reg_setReg_self, BitVec.toNat_ofNat]
  omega

theorem State.frame_keyDown : Frame s (s.keyDown k) [] [.keys] := by
  unfold keyDown
  split
  · exact frame_setKeys _ (by simp)
  · exact frame_refl

theorem State.frame_keyUp_of_waiting (hk : k < 16) {r : Nibble} (h : s.runState = .waitingForKey r) :
    Frame s (s.keyUp k) [r] [.keys, .wait] := by
  rw [keyUp_of_waiting hk h]
  exact ((frame_setKeys _ (by simp)).trans (frame_setReg r _ (by simp))).trans
    (frame_endWait (by simp))

end

/-- Settles O42: a press of a key is one write of KEYS. -/
theorem keyDownSetsTheKey : Obligations.KeyDownSetsTheKey := fun k s =>
  ⟨s.keyDown k, rfl,
    fun hk => ⟨fun _ => State.getLsbD_keys_keyDown hk, State.runState_keyDown, State.frame_keyDown⟩,
    State.keyDown_of_le⟩

/-- Settles O43: by whether the run state is a wait; the key's bit is cleared in both cases. -/
theorem keyUpReleasesAndResolves : Obligations.KeyUpReleasesAndResolves := by
  refine fun k s => ⟨s.keyUp k, rfl, State.keyUp_of_le, fun hk =>
    ⟨fun _ => State.getLsbD_keys_keyUp hk, fun r hr => ?waiting, fun hw => ?notWaiting⟩⟩
  case waiting =>
    exact ⟨State.runState_keyUp_of_waiting hk hr, State.reg_keyUp_of_waiting hk hr,
      State.frame_keyUp_of_waiting hk hr⟩
  case notWaiting =>
    rw [State.keyUp_of_not_waiting hk hw]
    exact ⟨rfl, frame_setKeys _ (by simp)⟩

/-- A step that fetches FX0A enters the wait past the instruction and writes no register. -/
theorem step_ldVxK {s : State} {x : Nibble} (hf : Fetches s)
    (hd : decode s.fetchWord = .ok (.ldVxK x)) :
    ∃ t, step s = .next t ∧ t.runState = .waitingForKey x ∧ (∀ q, t.reg q = s.reg q) ∧
      t.pc = s.pc + 2 := by
  obtain ⟨hrun, hff⟩ := hf
  obtain ⟨hnone, -⟩ := State.runState_eq_running.1 hrun
  exact ⟨s.advance.startWait x, step_of_ok (State.gated_eq_false.2 hrun) hff hd,
    State.runState_startWait (s := s.advance) hnone x, fun _ => rfl, rfl⟩

/-- Settles O44: the step enters the wait, which is gated and which the press leaves; then the release
resolves it, and neither moves PC. -/
theorem keyWaitRoundTrip : Obligations.KeyWaitRoundTrip := by
  intro x k s hk hf hd
  obtain ⟨t, hstep, hwait, hreg, hpc⟩ := step_ldVxK hf hd
  have hgated : t.gated = true := State.gated_of_not_running (by simp [hwait])
  have hdown : (t.keyDown k).runState = .waitingForKey x := State.runState_keyDown.trans hwait
  refine ⟨t, hstep, hwait, step_of_gated hgated, hdown, fun q => ?reg, ?pressed,
    State.runState_keyUp_of_waiting hk hdown, State.reg_keyUp_of_waiting hk hdown, ?released, ?pc⟩
  case reg => rw [State.keyDown_of_lt hk]; exact hreg q
  case pressed => rw [State.getLsbD_keys_keyDown hk hk, decide_eq_true rfl, Bool.or_true]
  case released =>
    rw [State.getLsbD_keys_keyUp hk hk, decide_eq_true rfl, Bool.not_true, Bool.and_false]
  case pc => rw [State.keyUp_of_waiting hk hdown, State.keyDown_of_lt hk]; exact hpc

end Sys2Proof.Machine
end

section
/-! SUPPORT. What a fault record left by a body says of it, what a stopped core keeps through a
transaction, and the statements about exceptions and the host interface (60_exceptions). -/

namespace Sys2Proof.Machine

/-! ### Fault entry (60_exceptions R264, R268) -/

/-- A body that leaves a cause where there was none has raised it, and has done nothing else. -/
theorem Runs.raises_of_fault {s t : State} {i : Instr} {c : FaultCause} (hr : Runs s i t)
    (hs : s.fault = none) (ht : t.fault = some c) :
    Raises s i c ∧ t = s.enterFault c (encode i) (s.pc - 2) := by
  cases hr
  case raise c' hc =>
    obtain rfl : c' = c := Option.some.inj ht
    exact ⟨hc, rfl⟩
  -- every other body leaves FAULT as it was
  all_goals simp [hs] at ht

/-- Fault entry undoes the advance of the fetch: only PC was moved, and it is written. -/
theorem State.enterFault_advance (s : State) (c : FaultCause) (op : Word) :
    s.advance.enterFault c op (s.advance.pc - 2) = s.enterFault c op s.pc := by
  have hpc : s.advance.pc - 2 = s.pc := BitVec.add_sub_cancel s.pc 2
  rw [hpc]
  rfl

/-- Settles O10: by the cases of a step. The fetch and a body that raises both answer fault entry at
the instruction's address; an unknown word raises nothing. -/
theorem faultEntryIsPrecise : Obligations.FaultEntryIsPrecise := by
  intro s t c hrun h hc
  obtain ⟨hnone, -⟩ := State.runState_eq_running.1 hrun
  rcases step_cases s with ⟨hg, -⟩ | ⟨hg, hf, hs⟩ | ⟨hg, hf, i, hd, hs⟩ | ⟨-, -, e, -, hs⟩
  · simp [State.gated_eq_false.2 hrun] at hg
  · cases hs.symm.trans h
    obtain rfl : .addressFault = c := Option.some.inj hc
    rw [if_pos hf]
    exact ⟨faultEntered_enterFault s _ _ _, stepReport_of_fetchFaults hg hf⟩
  · have hexec : exec i s.advance = .next t := hs.symm.trans h
    obtain ⟨-, ht⟩ := (runs_of_exec hexec).raises_of_fault hnone hc
    rw [State.enterFault_advance, encode_of_decode hd] at ht
    rw [if_neg (by simp [hf]), stepReport_of_ok hg hf hd, hexec, ht]
    exact ⟨faultEntered_enterFault s _ _ _, rfl⟩
  · cases hs.symm.trans h
    simp [hnone] at hc

/-- Settles O54: a body that leaves a cause raises it, by one of the three rules of `Raises`. -/
theorem eachCauseHasItsInstructions : Obligations.EachCauseHasItsInstructions := by
  intro i s t c hs h hc
  obtain ⟨hr, -⟩ := (runs_of_exec h).raises_of_fault hs hc
  cases hr with
  | underflow _ => simp
  | overflow nnn _ => simp
  | address hd => simpa using State.dataFaults_iff.1 hd

/-! ### Stopped cores (60_exceptions R265, R266, R289) -/

/-- Two states in the same run state, with the same record of a fault. -/
def SameStop (s t : State) : Prop :=
  t.runState = s.runState ∧ t.faultOp = s.faultOp ∧ t.faultPc = s.faultPc

theorem sameStop_refl (s : State) : SameStop s s := ⟨rfl, rfl, rfl⟩

theorem sameStop_loadRom (s : State) (bytes : List Byte) : SameStop s (s.loadRom bytes) := by
  rw [State.loadRom, State.writeBytes_eq_setMem]
  exact ⟨rfl, rfl, rfl⟩

theorem sameStop_keyDown (s : State) (k : Nat) : SameStop s (s.keyDown k) := by
  unfold State.keyDown
  split <;> exact ⟨rfl, rfl, rfl⟩

/-- A release keeps the run state unless it resolves a wait (45_timers_keys R246). -/
theorem sameStop_keyUp {s : State} {k : Nat} (h : k < 16 → ∀ r, s.runState ≠ .waitingForKey r) :
    SameStop s (s.keyUp k) := by
  by_cases hk : k < 16
  · rw [State.keyUp_of_not_waiting hk (h hk)]
    exact ⟨rfl, rfl, rfl⟩
  · rw [State.keyUp_of_le (not_lt.1 hk)]
    exact sameStop_refl s

/-- What a core that does not run keeps through every transaction that neither replaces the state nor
resolves a wait. -/
theorem transact_sameStop {tr : Transaction} {s : State} (hs : s.runState ≠ .running)
    (hr : tr.replacesState = false)
    (hw : tr.endsWait = true → ∀ r, s.runState ≠ .waitingForKey r) :
    ∃ t a, transact tr s = .next (t, a) ∧ SameStop s t := by
  cases tr
  case init | restore => cases hr
  case loadRom bytes =>
    cases hb : romFits bytes
    · exact ⟨s, .rejected, by simp [transact, hb], sameStop_refl s⟩
    · exact ⟨s.loadRom bytes, .done, by simp [transact, hb], sameStop_loadRom s bytes⟩
  case step =>
    have hstep : step s = .next s := step_of_gated (State.gated_of_not_running hs)
    exact ⟨s, _, by rw [transact, stepTransaction, hstep], sameStop_refl s⟩
  case keyDown k => exact ⟨_, _, rfl, sameStop_keyDown s k⟩
  case keyUp k => exact ⟨_, _, rfl, sameStop_keyUp fun hk => hw (decide_eq_true hk)⟩
  case setClockspeed hz =>
    by_cases hh : 1 ≤ hz
    · exact ⟨s.setClockspeed hz, .done, by simp only [transact, if_pos hh], ⟨rfl, rfl, rfl⟩⟩
    · exact ⟨s, .rejected, by simp only [transact, if_neg hh], sameStop_refl s⟩
  case tickTimers | save | setQuirks => exact ⟨_, _, rfl, ⟨rfl, rfl, rfl⟩⟩

/-- Settles O53: a faulted core is no waiting one, so no key_up moves it; a waiting core keeps its run
state by the hypothesis that the transaction does not end the wait. -/
theorem stopStatesAreSticky : Obligations.StopStatesAreSticky := by
  refine fun tr s hr => ⟨fun c hc => ?faulted, fun r hwait hend => ?waiting⟩
  case faulted =>
    obtain ⟨t, a, ht, hrun, hop, hpc⟩ :=
      transact_sameStop (s := s) (by simp [hc]) hr fun _ r => by simp [hc]
    exact ⟨t, a, ht, hrun.trans hc, hop, hpc⟩
  case waiting =>
    obtain ⟨t, a, ht, hrun, -⟩ :=
      transact_sameStop (s := s) (by simp [hwait]) hr fun he => by simp [hend] at he
    exact ⟨t, a, ht, hrun.trans hwait⟩

/-! ### Configuration by the host (60_exceptions R279, R280) -/

/-- Settles O49: each is one field update, and set_clockspeed tests its argument first. -/
theorem hostSetsQuirksAndClockspeed : Obligations.HostSetsQuirksAndClockspeed := fun _ _ _ =>
  ⟨rfl, fun h => congrArg Host.Outcome.next (if_pos h), rfl⟩

end Sys2Proof.Machine
end


section
/-! SUPPORT. What init and load_rom leave in memory and in the other fields, and the statements about
them (70_reset_and_hazards). -/

namespace Sys2Proof.Machine

/-! ### Init (70_reset_and_hazards R290, 60_exceptions R271) -/

/-- Init is the reset state with the font written at 0, the quirks configured, and the model's two own
fields kept from the old state. -/
theorem State.init_eq (s : State) (font : Vector Byte 80) (config : Option Quirks) :
    s.init font config =
      { State.reset with
        mem := (State.reset.writeBytes 0 font.toList).mem, quirks := config.getD Quirks.default,
        oobPolicy := s.oobPolicy, drawCount := s.drawCount } := by
  rw [State.init, State.writeBytes_eq_setMem]
  rfl

/-- Of the old state init keeps nothing in memory: it reads as the reset memory after the font. -/
theorem State.readByte_init (s : State) (font : Vector Byte 80) (config : Option Quirks) (a : Nat) :
    (s.init font config).readByte a = (State.reset.writeBytes 0 font.toList).readByte a := rfl

theorem State.wf_reset : Memory.wf State.reset.mem = true := rfl

theorem State.readByte_init_of_lt (s : State) (font : Vector Byte 80) (config : Option Quirks)
    {a : Nat} (h : a < 80) : (s.init font config).readByte a = font[a] := by
  have hlen : font.toList.length = 80 := font.length_toList
  have hread := State.readByte_writeBytes State.wf_reset (a := 0) (bs := font.toList) (by omega)
    (show a < font.toList.length by omega)
  rw [Nat.zero_add] at hread
  exact hread.trans (font.getElem_toList _)

theorem State.readByte_init_of_le (s : State) (font : Vector Byte 80) (config : Option Quirks)
    {a : Nat} (h : 80 ≤ a) (ha : a < 4096) : (s.init font config).readByte a = 0 := by
  have hlen : font.toList.length = 80 := font.length_toList
  rw [State.readByte_init, State.readByte_writeBytes_of_ne State.wf_reset fun k hk => by omega,
    State.readByte_reset h ha]

/-- Settles O45: memory by the two ranges of addresses, and every other field by `State.init_eq`. -/
theorem initLeavesResetValues : Obligations.InitLeavesResetValues := by
  intro s font config
  obtain ⟨-, -, -, -, hreg, -⟩ := resetStateIsTheSpecs
  refine ⟨_, rfl, fun a => s.readByte_init_of_lt font config,
    fun a => s.readByte_init_of_le font config, ?_⟩
  rw [State.init_eq]
  exact ⟨hreg, rfl, rfl, rfl, rfl, rfl, rfl, rfl, rfl, rfl, rfl, rfl, rfl, Screen.pixel_blank, rfl, rfl⟩

/-! ### Loading an image (70_reset_and_hazards R292, R293) -/

theorem romFits_iff {bytes : List Byte} : romFits bytes = true ↔ bytes.length ≤ 3584 :=
  decide_eq_true_iff

theorem transact_loadRom_of_le {bytes : List Byte} (h : bytes.length ≤ 3584) (s : State) :
    transact (.loadRom bytes) s = .next (s.loadRom bytes, .done) :=
  congrArg Host.Outcome.next (if_pos (romFits_iff.2 h))

theorem transact_loadRom_of_lt {bytes : List Byte} (h : 3584 < bytes.length) (s : State) :
    transact (.loadRom bytes) s = .next (s, .rejected) :=
  congrArg Host.Outcome.next (if_neg fun hf => not_le.2 h (romFits_iff.1 hf))

section
variable {s : State} (hm : Memory.wf s.mem = true) {bytes : List Byte} (hl : bytes.length ≤ 3584)
include hm hl

theorem State.readByte_loadRom {k : Nat} (hk : k < bytes.length) :
    (s.loadRom bytes).readByte (0x200 + k) = bytes[k] :=
  State.readByte_writeBytes hm (by omega) hk

/-- An image that fits ends at 4096, so that it does not wrap around onto another byte. -/
theorem State.readByte_loadRom_of_outside {a : Nat} (ha : a < 4096)
    (hout : a < 0x200 ∨ 0x200 + bytes.length ≤ a) :
    (s.loadRom bytes).readByte a = s.readByte a := by
  refine State.readByte_writeBytes_of_ne hm fun k hk => ?_
  have hbase : Config.programBase = 0x200 := rfl
  omega

end

/-- Settles O47: the size check by its two cases; an accepted image is a write of its bytes. -/
theorem loadRomWritesOrRejects : Obligations.LoadRomWritesOrRejects := fun bytes s hm =>
  ⟨fun hl => ⟨_, transact_loadRom_of_le hl s, fun _ => State.readByte_loadRom hm hl,
    fun _ => State.readByte_loadRom_of_outside hm hl, frame_writeBytes _ _ (by simp)⟩,
    fun hl => transact_loadRom_of_lt hl s⟩

end Sys2Proof.Machine
end

section
/-! SUPPORT. Where a body that uses the stack answers a state, what an admitted snapshot must be, and
the statements about them (10_state R46, 70_reset_and_hazards R296 to R298). -/

namespace Sys2Proof.Machine

/-! ### Stack accesses beyond the depth (log entry 5) -/

/-- The cause that RET raises needs an empty stack (60_exceptions R263). -/
theorem Raises.sp_of_ret {s : State} {c : FaultCause} (h : Raises s .ret c) : s.sp = 0 := by
  cases h with
  | underflow h0 => exact h0
  | address hd => exact absurd rfl (Raises.policy (.address hd)).2

/-- The cause that CALL raises needs a full stack (60_exceptions R262). -/
theorem Raises.sp_of_call {s : State} {nnn : Addr12} {c : FaultCause} (h : Raises s (.call nnn) c) :
    s.sp = 16 := by
  cases h with
  | overflow _ hf => exact hf
  | address hd => exact absurd rfl (Raises.policy (.address hd)).2

theorem Runs.sp_le_of_ret {s t : State} (h : Runs s .ret t) : s.sp.toNat ≤ 16 := by
  cases h with
  | raise hr => simp [hr.sp_of_ret]
  | ret h0 hl => rw [sp_sub_one_toNat h0] at hl; omega

theorem Runs.sp_le_of_call {s t : State} {nnn : Addr12} (h : Runs s (.call nnn) t) :
    s.sp.toNat ≤ 16 := by
  cases h with
  | raise hr => simp [hr.sp_of_call]
  | call _ hl => exact hl.le

/-- A body that answers no state stops on a stack entry that does not exist. -/
theorem exec_of_not_runs {i : Instr} {s : State} (h : ∀ t, ¬Runs s i t) :
    exec i s = .fault .stackIndexOutOfRange :=
  ((exec_cases i s).resolve_left fun ⟨t, _, hr⟩ => h t hr).2

/-- Settles O13: where RET and CALL answer a state, SP is at most 16. -/
theorem stackAccessBeyondDepthStops : Obligations.StackAccessBeyondDepthStops := fun _ _ hsp =>
  ⟨exec_of_not_runs fun _ hr => not_le.2 hsp hr.sp_le_of_ret,
    exec_of_not_runs fun _ hr => not_le.2 hsp hr.sp_le_of_call⟩

/-! ### Save and restore (70_reset_and_hazards R296 to R298) -/

/-- The draw counter has no part in well-formedness: an admission looks at the snapshot under the
machine's own policy only (log entry 3). -/
theorem State.admits_eq (s u : State) :
    s.admits u = ({ u with oobPolicy := s.oobPolicy } : State).wellFormed := rfl

/-- A state adopts itself unchanged. -/
theorem State.adopt_self (s : State) : s.adopt s = s := rfl

theorem State.admits_self (s : State) : s.admits s = s.wellFormed := rfl

theorem transact_restore_of_admits {s u : State} (h : s.admits u = true) :
    transact (.restore u) s = .next (s.adopt u, .done) :=
  congrArg Host.Outcome.next (if_pos h)

theorem transact_restore_of_not_admits {s u : State} (h : s.admits u = false) :
    transact (.restore u) s = .next (s, .rejected) :=
  congrArg Host.Outcome.next (if_neg (by simp [h]))

/-- Settles O48: a restore by whether the snapshot is admitted; the state's own snapshot is one to adopt
without a change. -/
theorem saveAndRestore : Obligations.SaveAndRestore := by
  refine fun s u => ⟨rfl, fun hs => ?own, fun hu => ?rejected, fun hu => ?admitted⟩
  case own =>
    have h := transact_restore_of_admits (s.admits_self.trans hs)
    rwa [State.adopt_self] at h
  case rejected => exact transact_restore_of_not_admits ((s.admits_eq u).trans hu)
  case admitted => exact transact_restore_of_admits ((s.admits_eq u).trans hu)

end Sys2Proof.Machine
end
